-- ==== Sys2Proof/Word.lean ====
section
/-! DEFINITION. The two widths of the hardware (spec 00_scope R6): bytes of 8 bits and addresses of 16 bits. -/

namespace Sys2Proof

/-- "Byte: 8-bit unsigned, the unit of storage and transfer" (R6). -/
abbrev Byte := BitVec 8

/-- "Address: 16-bit unsigned, the full addressable range (0–0xFFFF)" (R6). -/
abbrev Addr := BitVec 16

end Sys2Proof
end

