-- ==== Sys2Proof/Config.lean ====
section
/-! DEFINITION. What a launch fixes: the parameters OPCODE_SET and RESET_REGS (spec 00_scope R7, R8, R11), the
constants the source fixes (R9), and the behaviour of devices other than Memory, which the spec leaves to the
platform (20_memory R75) and which nothing here constrains. -/

namespace Sys2Proof

/-- OPCODE_SET (R7): which entries of the Instruction Table are populated. -/
inductive OpcodeSet where
  /-- the five opcodes whose byte and mnemonic the source gives -/
  | shown
  /-- the 142 opcodes of opcode_table.json, the spec's default -/
  | completed
deriving DecidableEq, Repr

/-- RESET_REGS (R8): the register and flag values that construction and reset give. -/
structure ResetRegs where
  a : Byte
  x : Byte
  y : Byte
  flagN : Bool
  flagV : Bool
  flagD : Bool
  flagI : Bool
  flagZ : Bool
  flagC : Bool
  internalAddress : Addr
  internalOperand : Byte
deriving DecidableEq, Repr

/-- "A deterministic simulator uses all zeros" (R8). -/
def ResetRegs.zero : ResetRegs :=
  { a := 0, x := 0, y := 0, flagN := false, flagV := false, flagD := false, flagI := false, flagZ := false,
    flagC := false, internalAddress := 0, internalOperand := 0 }

namespace Config

/-- "the fixed reset-vector address `0xFFFC`" (R9). -/
def resetVector : Addr := 0xFFFC#16

/-- The boot-sequence length in ticks (R9), which `get_user_cycles` subtracts (70_reset_and_hazards R450). -/
def bootLength : Nat := 3

/-! Devices other than Memory (20_memory R75; assumption log 9). `kind` says which device it is and `st` is that
device's own state. These functions have no body: a proof about them holds whatever the device does. DESIGN CHOICE
(log 9), safe: the predicates may look at the device's state. -/

/-- `is_readable_for(addr)` of a device other than Memory. -/
opaque otherReadable (kind : Nat) (st : List Byte) (addr : Addr) : Bool

/-- `is_writable_for(addr)` of a device other than Memory. -/
opaque otherWritable (kind : Nat) (st : List Byte) (addr : Addr) : Bool

/-- `do_read(addr)` of a device other than Memory: the byte and the device's state after, since "a read may change
the device's state". -/
opaque otherRead (kind : Nat) (st : List Byte) (addr : Addr) : Byte × List Byte

/-- `do_write(addr, byte)` of a device other than Memory: the device's state after. -/
opaque otherWrite (kind : Nat) (st : List Byte) (addr : Addr) (v : Byte) : List Byte

end Config

end Sys2Proof
end

