-- ==== Sys2Proof/Machine/MicroOp.lean ====
section
/-! DEFINITION. Micro-ops with their payloads (spec 40_sequencer R144–R158, 41_microops_alu R180–R196) and the
addressing modes (30_encoding section 3) with the micro-ops each contributes. Payload types are as wide as the source's
vocabulary, so that an ill-formed micro-op can be written down and refused (30_encoding R106); the domains are checked
by `MicroOp.wf` in WellFormed. -/

namespace Sys2Proof.Machine

/-- `Reg8 = {A, X, Y, InternalOperand}` (10_state R32). -/
inductive Reg8 where
  | a | x | y | internalOperand
deriving DecidableEq, Repr

/-- `AddrReg = {PC, InternalAddress}` (10_state R32). -/
inductive AddrReg where
  | pc | internalAddress
deriving DecidableEq, Repr

/-- The six flags (10_state R36). -/
inductive Flag where
  | n | v | d | i | z | c
deriving DecidableEq, Repr

/-- The `wrap` payload of IncrementAddressByReg (40_sequencer R153, R154; 90_conflicts C2). -/
inductive Wrap where
  | zeroPage | full
deriving DecidableEq, Repr

/-- The ALU functions the source lists for ComputeAndStore (41_microops_alu R186); `compare` is excluded by R197. -/
inductive AluFunc where
  | or | and | eor | addWithCarry | subtractWithBorrow | compare
deriving DecidableEq, Repr

/-- The functions of ModifyRegister (41_microops_alu R193). -/
inductive ModifyFunc where
  | increment | decrement | shiftLeft | shiftRight | rotateLeft | rotateRight
deriving DecidableEq, Repr

/-- A branch condition `(f, b)` (40_sequencer R158): the flag and the value it must have. -/
structure Cond where
  flag : Flag
  value : Bool
deriving DecidableEq, Repr

/-- "Micro-op: atomic tagged unit of work; some carry typed payload" (00_scope R15). -/
inductive MicroOp where
  /-- R144 -/
  | fetchOpcode
  /-- R148 -/
  | fetchImmediateOperand
  /-- R149 -/
  | fetchOperand
  /-- R150 -/
  | fetchZeroPageAddr
  /-- R151 -/
  | fetchAddrLo
  /-- R152 -/
  | fetchAddrHi
  /-- R153, R154 -/
  | incrementAddressByReg (reg : Reg8) (wrap : Wrap)
  /-- R155 -/
  | readAddressLo
  /-- R156 -/
  | readAddressHi
  /-- R157 -/
  | readOperand
  /-- R158 -/
  | incrementPCBySignedOperand (cond : Cond)
  /-- R182, R185 -/
  | storeToRegister (src dst : Reg8)
  /-- R183 -/
  | writeToAddress (src : Reg8) (addr : AddrReg)
  /-- R184 -/
  | jumpToAddress
  /-- R186–R190 -/
  | computeAndStore (left dst : Reg8) (func : AluFunc)
  /-- R191 -/
  | compareToRegister (src reg2 : Reg8)
  /-- R192 -/
  | bitTest (reg : Reg8)
  /-- R193 -/
  | modifyRegister (reg : Reg8) (func : ModifyFunc)
  /-- R194 -/
  | setFlag (flag : Flag) (value : Bool)
  /-- R195 -/
  | nop
  /-- R196 -/
  | brk
deriving DecidableEq, Repr

/-- Whether a micro-op consumes an instruction-stream byte, FetchOpcode apart (30_encoding R101). -/
def MicroOp.consumesStreamByte : MicroOp → Bool
  | .fetchImmediateOperand | .fetchOperand | .fetchZeroPageAddr | .fetchAddrLo | .fetchAddrHi => true
  | _ => false

/-- The addressing modes (30_encoding section 3). A relative branch's mode carries its condition, as R105 says the
fetch micro-ops of that mode do. -/
inductive Mode where
  | accumulator | implied | immediate
  | zeroPage | zeroPageX | zeroPageY
  | absolute | absoluteX | absoluteY
  | indirect | indexedIndirect | indirectIndexed
  | relative (cond : Cond)
deriving DecidableEq, Repr

/-- The fetch micro-ops a mode contributes before an instruction's semantic micro-ops (R110–R122). -/
def Mode.fetchOps : Mode → List MicroOp
  | .accumulator => []
  | .implied => []
  | .immediate => [.fetchImmediateOperand]
  | .zeroPage => [.fetchZeroPageAddr]
  | .zeroPageX => [.fetchZeroPageAddr, .incrementAddressByReg .x .zeroPage]
  | .zeroPageY => [.fetchZeroPageAddr, .incrementAddressByReg .y .zeroPage]
  | .absolute => [.fetchAddrLo, .fetchAddrHi]
  | .absoluteX => [.fetchAddrLo, .fetchAddrHi, .incrementAddressByReg .x .full]
  | .absoluteY => [.fetchAddrLo, .fetchAddrHi, .incrementAddressByReg .y .full]
  | .indirect => [.fetchAddrLo, .fetchAddrHi, .readAddressLo, .readAddressHi]
  | .indexedIndirect => [.fetchZeroPageAddr, .incrementAddressByReg .x .zeroPage, .readAddressLo, .readAddressHi]
  | .indirectIndexed => [.fetchZeroPageAddr, .readAddressLo, .readAddressHi, .incrementAddressByReg .y .full]
  | .relative cond => [.fetchOperand, .incrementPCBySignedOperand cond]

/-- The boot micro-sequence (70_reset_and_hazards R441). -/
def bootSequence : List MicroOp := [.fetchAddrLo, .fetchAddrHi, .jumpToAddress]

end Sys2Proof.Machine
end

