-- ==== Sys2Proof/Syntax.lean ====
section
/-! DEFINITION. The instructions: one constructor per row of spec/opcode_table.json (30_encoding R108, R125), in the
table's order, with its operand: an imm8 byte (F2) or the 16-bit address its two operand bytes give (F3; R100, R102). -/

namespace Sys2Proof

/-- An instruction of the table. Its name is the mnemonic and the addressing mode: `Imm` `#$nn`, `Zp` `$nn`, `ZpX`
`$nn,X`, `ZpY` `$nn,Y`, `Abs` `$hhll`, `AbsX` `$hhll,X`, `AbsY` `$hhll,Y`, `Ind` `($hhll)`, `IndX` `($nn,X)`, `IndY`
`($nn),Y`, `Acc` `A`; nothing for Implied and Relative. -/
inductive Instr where
  /-- 0x00 `BRK` (R329) -/
  | brk
  /-- 0x01 `ORA ($nn,X)` (R263) -/
  | oraIndX (imm8 : Byte)
  /-- 0x05 `ORA $nn` (R263) -/
  | oraZp (imm8 : Byte)
  /-- 0x06 `ASL $nn` (R290) -/
  | aslZp (imm8 : Byte)
  /-- 0x09 `ORA #$nn` (R263) -/
  | oraImm (imm8 : Byte)
  /-- 0x0A `ASL A` (R290) -/
  | aslAcc
  /-- 0x0D `ORA $hhll` (R263) -/
  | oraAbs (addr : Addr)
  /-- 0x0E `ASL $hhll` (R290) -/
  | aslAbs (addr : Addr)
  /-- 0x10 `BPL label (rr)` (R321) -/
  | bpl (rr : Byte)
  /-- 0x11 `ORA ($nn),Y` (R263) -/
  | oraIndY (imm8 : Byte)
  /-- 0x15 `ORA $nn,X` (R263) -/
  | oraZpX (imm8 : Byte)
  /-- 0x16 `ASL $nn,X` (R290) -/
  | aslZpX (imm8 : Byte)
  /-- 0x18 `CLC` (R331) -/
  | clc
  /-- 0x19 `ORA $hhll,Y` (R263) -/
  | oraAbsY (addr : Addr)
  /-- 0x1D `ORA $hhll,X` (R263) -/
  | oraAbsX (addr : Addr)
  /-- 0x1E `ASL $hhll,X` (R290) -/
  | aslAbsX (addr : Addr)
  /-- 0x21 `AND ($nn,X)` (R262) -/
  | andIndX (imm8 : Byte)
  /-- 0x24 `BIT $nn` (R268) -/
  | bitZp (imm8 : Byte)
  /-- 0x25 `AND $nn` (R262) -/
  | andZp (imm8 : Byte)
  /-- 0x26 `ROL $nn` (R292) -/
  | rolZp (imm8 : Byte)
  /-- 0x29 `AND #$nn` (R262) -/
  | andImm (imm8 : Byte)
  /-- 0x2A `ROL A` (R292) -/
  | rolAcc
  /-- 0x2C `BIT $hhll` (R268) -/
  | bitAbs (addr : Addr)
  /-- 0x2D `AND $hhll` (R262) -/
  | andAbs (addr : Addr)
  /-- 0x2E `ROL $hhll` (R292) -/
  | rolAbs (addr : Addr)
  /-- 0x30 `BMI label (rr)` (R322) -/
  | bmi (rr : Byte)
  /-- 0x31 `AND ($nn),Y` (R262) -/
  | andIndY (imm8 : Byte)
  /-- 0x35 `AND $nn,X` (R262) -/
  | andZpX (imm8 : Byte)
  /-- 0x36 `ROL $nn,X` (R292) -/
  | rolZpX (imm8 : Byte)
  /-- 0x38 `SEC` (R332) -/
  | sec
  /-- 0x39 `AND $hhll,Y` (R262) -/
  | andAbsY (addr : Addr)
  /-- 0x3D `AND $hhll,X` (R262) -/
  | andAbsX (addr : Addr)
  /-- 0x3E `ROL $hhll,X` (R292) -/
  | rolAbsX (addr : Addr)
  /-- 0x41 `EOR ($nn,X)` (R264) -/
  | eorIndX (imm8 : Byte)
  /-- 0x45 `EOR $nn` (R264) -/
  | eorZp (imm8 : Byte)
  /-- 0x46 `LSR $nn` (R291) -/
  | lsrZp (imm8 : Byte)
  /-- 0x49 `EOR #$nn` (R264) -/
  | eorImm (imm8 : Byte)
  /-- 0x4A `LSR A` (R291) -/
  | lsrAcc
  /-- 0x4C `JMP $hhll` (R320) -/
  | jmpAbs (addr : Addr)
  /-- 0x4D `EOR $hhll` (R264) -/
  | eorAbs (addr : Addr)
  /-- 0x4E `LSR $hhll` (R291) -/
  | lsrAbs (addr : Addr)
  /-- 0x50 `BVC label (rr)` (R323) -/
  | bvc (rr : Byte)
  /-- 0x51 `EOR ($nn),Y` (R264) -/
  | eorIndY (imm8 : Byte)
  /-- 0x55 `EOR $nn,X` (R264) -/
  | eorZpX (imm8 : Byte)
  /-- 0x56 `LSR $nn,X` (R291) -/
  | lsrZpX (imm8 : Byte)
  /-- 0x58 `CLI` (R333) -/
  | cli
  /-- 0x59 `EOR $hhll,Y` (R264) -/
  | eorAbsY (addr : Addr)
  /-- 0x5D `EOR $hhll,X` (R264) -/
  | eorAbsX (addr : Addr)
  /-- 0x5E `LSR $hhll,X` (R291) -/
  | lsrAbsX (addr : Addr)
  /-- 0x61 `ADC ($nn,X)` (R260) -/
  | adcIndX (imm8 : Byte)
  /-- 0x65 `ADC $nn` (R260) -/
  | adcZp (imm8 : Byte)
  /-- 0x66 `ROR $nn` (R293) -/
  | rorZp (imm8 : Byte)
  /-- 0x69 `ADC #$nn` (R260) -/
  | adcImm (imm8 : Byte)
  /-- 0x6A `ROR A` (R293) -/
  | rorAcc
  /-- 0x6C `JMP ($hhll)` (R320) -/
  | jmpInd (addr : Addr)
  /-- 0x6D `ADC $hhll` (R260) -/
  | adcAbs (addr : Addr)
  /-- 0x6E `ROR $hhll` (R293) -/
  | rorAbs (addr : Addr)
  /-- 0x70 `BVS label (rr)` (R324) -/
  | bvs (rr : Byte)
  /-- 0x71 `ADC ($nn),Y` (R260) -/
  | adcIndY (imm8 : Byte)
  /-- 0x75 `ADC $nn,X` (R260) -/
  | adcZpX (imm8 : Byte)
  /-- 0x76 `ROR $nn,X` (R293) -/
  | rorZpX (imm8 : Byte)
  /-- 0x78 `SEI` (R334) -/
  | sei
  /-- 0x79 `ADC $hhll,Y` (R260) -/
  | adcAbsY (addr : Addr)
  /-- 0x7D `ADC $hhll,X` (R260) -/
  | adcAbsX (addr : Addr)
  /-- 0x7E `ROR $hhll,X` (R293) -/
  | rorAbsX (addr : Addr)
  /-- 0x81 `STA ($nn,X)` (R233) -/
  | staIndX (imm8 : Byte)
  /-- 0x84 `STY $nn` (R235) -/
  | styZp (imm8 : Byte)
  /-- 0x85 `STA $nn` (R233) -/
  | staZp (imm8 : Byte)
  /-- 0x86 `STX $nn` (R234) -/
  | stxZp (imm8 : Byte)
  /-- 0x88 `DEY` (R299) -/
  | dey
  /-- 0x8A `TXA` (R238) -/
  | txa
  /-- 0x8C `STY $hhll` (R235) -/
  | styAbs (addr : Addr)
  /-- 0x8D `STA $hhll` (R233) -/
  | staAbs (addr : Addr)
  /-- 0x8E `STX $hhll` (R234) -/
  | stxAbs (addr : Addr)
  /-- 0x90 `BCC label (rr)` (R325) -/
  | bcc (rr : Byte)
  /-- 0x91 `STA ($nn),Y` (R233) -/
  | staIndY (imm8 : Byte)
  /-- 0x94 `STY $nn,X` (R235) -/
  | styZpX (imm8 : Byte)
  /-- 0x95 `STA $nn,X` (R233) -/
  | staZpX (imm8 : Byte)
  /-- 0x96 `STX $nn,Y` (R234) -/
  | stxZpY (imm8 : Byte)
  /-- 0x98 `TYA` (R239) -/
  | tya
  /-- 0x99 `STA $hhll,Y` (R233) -/
  | staAbsY (addr : Addr)
  /-- 0x9D `STA $hhll,X` (R233) -/
  | staAbsX (addr : Addr)
  /-- 0xA0 `LDY #$nn` (R232) -/
  | ldyImm (imm8 : Byte)
  /-- 0xA1 `LDA ($nn,X)` (R230) -/
  | ldaIndX (imm8 : Byte)
  /-- 0xA2 `LDX #$nn` (R231) -/
  | ldxImm (imm8 : Byte)
  /-- 0xA4 `LDY $nn` (R232) -/
  | ldyZp (imm8 : Byte)
  /-- 0xA5 `LDA $nn` (R230) -/
  | ldaZp (imm8 : Byte)
  /-- 0xA6 `LDX $nn` (R231) -/
  | ldxZp (imm8 : Byte)
  /-- 0xA8 `TAY` (R237) -/
  | tay
  /-- 0xA9 `LDA #$nn` (R230) -/
  | ldaImm (imm8 : Byte)
  /-- 0xAA `TAX` (R236) -/
  | tax
  /-- 0xAC `LDY $hhll` (R232) -/
  | ldyAbs (addr : Addr)
  /-- 0xAD `LDA $hhll` (R230) -/
  | ldaAbs (addr : Addr)
  /-- 0xAE `LDX $hhll` (R231) -/
  | ldxAbs (addr : Addr)
  /-- 0xB0 `BCS label (rr)` (R326) -/
  | bcs (rr : Byte)
  /-- 0xB1 `LDA ($nn),Y` (R230) -/
  | ldaIndY (imm8 : Byte)
  /-- 0xB4 `LDY $nn,X` (R232) -/
  | ldyZpX (imm8 : Byte)
  /-- 0xB5 `LDA $nn,X` (R230) -/
  | ldaZpX (imm8 : Byte)
  /-- 0xB6 `LDX $nn,Y` (R231) -/
  | ldxZpY (imm8 : Byte)
  /-- 0xB8 `CLV` (R335) -/
  | clv
  /-- 0xB9 `LDA $hhll,Y` (R230) -/
  | ldaAbsY (addr : Addr)
  /-- 0xBC `LDY $hhll,X` (R232) -/
  | ldyAbsX (addr : Addr)
  /-- 0xBD `LDA $hhll,X` (R230) -/
  | ldaAbsX (addr : Addr)
  /-- 0xBE `LDX $hhll,Y` (R231) -/
  | ldxAbsY (addr : Addr)
  /-- 0xC0 `CPY #$nn` (R267) -/
  | cpyImm (imm8 : Byte)
  /-- 0xC1 `CMP ($nn,X)` (R265) -/
  | cmpIndX (imm8 : Byte)
  /-- 0xC4 `CPY $nn` (R267) -/
  | cpyZp (imm8 : Byte)
  /-- 0xC5 `CMP $nn` (R265) -/
  | cmpZp (imm8 : Byte)
  /-- 0xC6 `DEC $nn` (R295) -/
  | decZp (imm8 : Byte)
  /-- 0xC8 `INY` (R297) -/
  | iny
  /-- 0xC9 `CMP #$nn` (R265) -/
  | cmpImm (imm8 : Byte)
  /-- 0xCA `DEX` (R298) -/
  | dex
  /-- 0xCC `CPY $hhll` (R267) -/
  | cpyAbs (addr : Addr)
  /-- 0xCD `CMP $hhll` (R265) -/
  | cmpAbs (addr : Addr)
  /-- 0xCE `DEC $hhll` (R295) -/
  | decAbs (addr : Addr)
  /-- 0xD0 `BNE label (rr)` (R327) -/
  | bne (rr : Byte)
  /-- 0xD1 `CMP ($nn),Y` (R265) -/
  | cmpIndY (imm8 : Byte)
  /-- 0xD5 `CMP $nn,X` (R265) -/
  | cmpZpX (imm8 : Byte)
  /-- 0xD6 `DEC $nn,X` (R295) -/
  | decZpX (imm8 : Byte)
  /-- 0xD8 `CLD` (R336) -/
  | cld
  /-- 0xD9 `CMP $hhll,Y` (R265) -/
  | cmpAbsY (addr : Addr)
  /-- 0xDD `CMP $hhll,X` (R265) -/
  | cmpAbsX (addr : Addr)
  /-- 0xDE `DEC $hhll,X` (R295) -/
  | decAbsX (addr : Addr)
  /-- 0xE0 `CPX #$nn` (R266) -/
  | cpxImm (imm8 : Byte)
  /-- 0xE1 `SBC ($nn,X)` (R261) -/
  | sbcIndX (imm8 : Byte)
  /-- 0xE4 `CPX $nn` (R266) -/
  | cpxZp (imm8 : Byte)
  /-- 0xE5 `SBC $nn` (R261) -/
  | sbcZp (imm8 : Byte)
  /-- 0xE6 `INC $nn` (R294) -/
  | incZp (imm8 : Byte)
  /-- 0xE8 `INX` (R296) -/
  | inx
  /-- 0xE9 `SBC #$nn` (R261) -/
  | sbcImm (imm8 : Byte)
  /-- 0xEA `NOP` (R330) -/
  | nop
  /-- 0xEC `CPX $hhll` (R266) -/
  | cpxAbs (addr : Addr)
  /-- 0xED `SBC $hhll` (R261) -/
  | sbcAbs (addr : Addr)
  /-- 0xEE `INC $hhll` (R294) -/
  | incAbs (addr : Addr)
  /-- 0xF0 `BEQ label (rr)` (R328) -/
  | beq (rr : Byte)
  /-- 0xF1 `SBC ($nn),Y` (R261) -/
  | sbcIndY (imm8 : Byte)
  /-- 0xF5 `SBC $nn,X` (R261) -/
  | sbcZpX (imm8 : Byte)
  /-- 0xF6 `INC $nn,X` (R294) -/
  | incZpX (imm8 : Byte)
  /-- 0xF8 `SED` (R337) -/
  | sed
  /-- 0xF9 `SBC $hhll,Y` (R261) -/
  | sbcAbsY (addr : Addr)
  /-- 0xFD `SBC $hhll,X` (R261) -/
  | sbcAbsX (addr : Addr)
  /-- 0xFE `INC $hhll,X` (R294) -/
  | incAbsX (addr : Addr)
deriving DecidableEq, Repr

end Sys2Proof
end

