-- ==== Sys2Proof/WellFormed.lean ====
section
/-! DEFINITION. Well-formedness: which instructions an OPCODE_SET populates (spec 30_encoding R107, R108) and which
micro-op payloads are in the domain their rule gives (R106; 41_microops_alu). Every operand byte is legal (R127), so an
instruction is ill-formed only where its opcode is not populated. -/

namespace Sys2Proof

/-- Whether OPCODE_SET populates the instruction's opcode: all 142 under COMPLETED (R108), under SHOWN the five the
source gives (R107). -/
def Instr.wf (set : OpcodeSet) (i : Instr) : Bool :=
  match set with
  | .completed => true
  | .shown =>
    match i with
    | .brk | .ldxImm _ | .ldaImm _ | .staZpX _ | .nop => true
    | _ => false

namespace Machine

/-- Check (b) of R106: no StoreToRegister has src = dst. -/
def MicroOp.noSelfStore : MicroOp → Bool
  | .storeToRegister src dst => src != dst
  | _ => true

/-- Check (c) of R106: no ComputeAndStore uses func = Compare (R197). -/
def MicroOp.noCompareStore : MicroOp → Bool
  | .computeAndStore _ _ func => func != .compare
  | _ => true

/-- Check (d) of R106: the payload is in the domain its rule gives (R153, R154, R158, R186, R191, R192, R194). `(V, 1)`
is inside SetFlag's domain although no entry uses it (R194; log 18). -/
def MicroOp.payloadInDomain : MicroOp → Bool
  | .incrementAddressByReg reg _ => reg == .x || reg == .y
  | .incrementPCBySignedOperand cond =>
    cond.flag == .n || cond.flag == .v || cond.flag == .c || cond.flag == .z
  | .computeAndStore left dst _ => left != .internalOperand && dst != .internalOperand
  | .compareToRegister src reg2 => src == .internalOperand && reg2 != .internalOperand
  | .bitTest reg => reg == .a
  | .setFlag flag _ => flag == .c || flag == .i || flag == .v || flag == .d
  | _ => true

/-- A micro-op that has a meaning: checks (b), (c) and (d). -/
def MicroOp.wf (u : MicroOp) : Bool := u.noSelfStore && u.noCompareStore && u.payloadInDomain

end Machine

end Sys2Proof
end

