-- ==== Sys2Proof/Decode.lean ====
section
/-! DEFINITION. The decoder (spec 30_encoding R100, R101, R109, R125) and, after it, the encoder, with the byte-order
helpers both use (20_memory R78). Decoding is total: each of the 256 opcode bytes gives one row or is rejected by name. -/

namespace Sys2Proof

/-! ## 16-bit values from bytes (00_scope R12) -/

/-- `{hi8, lo8}`: the first in the more significant position (R12). -/
def addrOf (hi lo : Byte) : Addr := hi ++ lo

/-- `v[15:8]` (R12). -/
def hiByte (v : Addr) : Byte := v.extractLsb' 8 8

/-- `v[7:0]` (R12). -/
def loByte (v : Addr) : Byte := v.extractLsb' 0 8

/-! ## The decoder -/

/-- What an opcode still needs to become an instruction: nothing (F1), one operand byte (F2), or the address of two
operand bytes, low byte first (F3) (R100). -/
inductive Build where
  | f1 (i : Instr)
  | f2 (f : Byte → Instr)
  | f3 (f : Addr → Instr)

/-- The number of bytes of the instruction (R100, R101). -/
def Build.length : Build → Nat
  | .f1 _ => 1
  | .f2 _ => 2
  | .f3 _ => 3

/-- Why bytes give no instruction. -/
inductive DecodeFailure where
  /-- the opcode byte is not populated (R109, R127) -/
  | illegalOpcode (opcode : Byte)
  /-- the bytes end before the instruction does -/
  | truncated
deriving DecidableEq, Repr

/-! The opcode map of R125: `opcodeMap<h>` is the map's row `<h>x`, by low nibble. -/

/-- Row 0x of the opcode map (R125). -/
def opcodeMap0 (low : Nat) : Option Build :=
  match low with
  | 0x0 => some (.f1 .brk)
  | 0x1 => some (.f2 .oraIndX)
  | 0x5 => some (.f2 .oraZp)
  | 0x6 => some (.f2 .aslZp)
  | 0x9 => some (.f2 .oraImm)
  | 0xA => some (.f1 .aslAcc)
  | 0xD => some (.f3 .oraAbs)
  | 0xE => some (.f3 .aslAbs)
  | _ => none

/-- Row 1x of the opcode map (R125). -/
def opcodeMap1 (low : Nat) : Option Build :=
  match low with
  | 0x0 => some (.f2 .bpl)
  | 0x1 => some (.f2 .oraIndY)
  | 0x5 => some (.f2 .oraZpX)
  | 0x6 => some (.f2 .aslZpX)
  | 0x8 => some (.f1 .clc)
  | 0x9 => some (.f3 .oraAbsY)
  | 0xD => some (.f3 .oraAbsX)
  | 0xE => some (.f3 .aslAbsX)
  | _ => none

/-- Row 2x of the opcode map (R125). -/
def opcodeMap2 (low : Nat) : Option Build :=
  match low with
  | 0x1 => some (.f2 .andIndX)
  | 0x4 => some (.f2 .bitZp)
  | 0x5 => some (.f2 .andZp)
  | 0x6 => some (.f2 .rolZp)
  | 0x9 => some (.f2 .andImm)
  | 0xA => some (.f1 .rolAcc)
  | 0xC => some (.f3 .bitAbs)
  | 0xD => some (.f3 .andAbs)
  | 0xE => some (.f3 .rolAbs)
  | _ => none

/-- Row 3x of the opcode map (R125). -/
def opcodeMap3 (low : Nat) : Option Build :=
  match low with
  | 0x0 => some (.f2 .bmi)
  | 0x1 => some (.f2 .andIndY)
  | 0x5 => some (.f2 .andZpX)
  | 0x6 => some (.f2 .rolZpX)
  | 0x8 => some (.f1 .sec)
  | 0x9 => some (.f3 .andAbsY)
  | 0xD => some (.f3 .andAbsX)
  | 0xE => some (.f3 .rolAbsX)
  | _ => none

/-- Row 4x of the opcode map (R125). -/
def opcodeMap4 (low : Nat) : Option Build :=
  match low with
  | 0x1 => some (.f2 .eorIndX)
  | 0x5 => some (.f2 .eorZp)
  | 0x6 => some (.f2 .lsrZp)
  | 0x9 => some (.f2 .eorImm)
  | 0xA => some (.f1 .lsrAcc)
  | 0xC => some (.f3 .jmpAbs)
  | 0xD => some (.f3 .eorAbs)
  | 0xE => some (.f3 .lsrAbs)
  | _ => none

/-- Row 5x of the opcode map (R125). -/
def opcodeMap5 (low : Nat) : Option Build :=
  match low with
  | 0x0 => some (.f2 .bvc)
  | 0x1 => some (.f2 .eorIndY)
  | 0x5 => some (.f2 .eorZpX)
  | 0x6 => some (.f2 .lsrZpX)
  | 0x8 => some (.f1 .cli)
  | 0x9 => some (.f3 .eorAbsY)
  | 0xD => some (.f3 .eorAbsX)
  | 0xE => some (.f3 .lsrAbsX)
  | _ => none

/-- Row 6x of the opcode map (R125). -/
def opcodeMap6 (low : Nat) : Option Build :=
  match low with
  | 0x1 => some (.f2 .adcIndX)
  | 0x5 => some (.f2 .adcZp)
  | 0x6 => some (.f2 .rorZp)
  | 0x9 => some (.f2 .adcImm)
  | 0xA => some (.f1 .rorAcc)
  | 0xC => some (.f3 .jmpInd)
  | 0xD => some (.f3 .adcAbs)
  | 0xE => some (.f3 .rorAbs)
  | _ => none

/-- Row 7x of the opcode map (R125). -/
def opcodeMap7 (low : Nat) : Option Build :=
  match low with
  | 0x0 => some (.f2 .bvs)
  | 0x1 => some (.f2 .adcIndY)
  | 0x5 => some (.f2 .adcZpX)
  | 0x6 => some (.f2 .rorZpX)
  | 0x8 => some (.f1 .sei)
  | 0x9 => some (.f3 .adcAbsY)
  | 0xD => some (.f3 .adcAbsX)
  | 0xE => some (.f3 .rorAbsX)
  | _ => none

/-- Row 8x of the opcode map (R125). -/
def opcodeMap8 (low : Nat) : Option Build :=
  match low with
  | 0x1 => some (.f2 .staIndX)
  | 0x4 => some (.f2 .styZp)
  | 0x5 => some (.f2 .staZp)
  | 0x6 => some (.f2 .stxZp)
  | 0x8 => some (.f1 .dey)
  | 0xA => some (.f1 .txa)
  | 0xC => some (.f3 .styAbs)
  | 0xD => some (.f3 .staAbs)
  | 0xE => some (.f3 .stxAbs)
  | _ => none

/-- Row 9x of the opcode map (R125). -/
def opcodeMap9 (low : Nat) : Option Build :=
  match low with
  | 0x0 => some (.f2 .bcc)
  | 0x1 => some (.f2 .staIndY)
  | 0x4 => some (.f2 .styZpX)
  | 0x5 => some (.f2 .staZpX)
  | 0x6 => some (.f2 .stxZpY)
  | 0x8 => some (.f1 .tya)
  | 0x9 => some (.f3 .staAbsY)
  | 0xD => some (.f3 .staAbsX)
  | _ => none

/-- Row Ax of the opcode map (R125). -/
def opcodeMapA (low : Nat) : Option Build :=
  match low with
  | 0x0 => some (.f2 .ldyImm)
  | 0x1 => some (.f2 .ldaIndX)
  | 0x2 => some (.f2 .ldxImm)
  | 0x4 => some (.f2 .ldyZp)
  | 0x5 => some (.f2 .ldaZp)
  | 0x6 => some (.f2 .ldxZp)
  | 0x8 => some (.f1 .tay)
  | 0x9 => some (.f2 .ldaImm)
  | 0xA => some (.f1 .tax)
  | 0xC => some (.f3 .ldyAbs)
  | 0xD => some (.f3 .ldaAbs)
  | 0xE => some (.f3 .ldxAbs)
  | _ => none

/-- Row Bx of the opcode map (R125). -/
def opcodeMapB (low : Nat) : Option Build :=
  match low with
  | 0x0 => some (.f2 .bcs)
  | 0x1 => some (.f2 .ldaIndY)
  | 0x4 => some (.f2 .ldyZpX)
  | 0x5 => some (.f2 .ldaZpX)
  | 0x6 => some (.f2 .ldxZpY)
  | 0x8 => some (.f1 .clv)
  | 0x9 => some (.f3 .ldaAbsY)
  | 0xC => some (.f3 .ldyAbsX)
  | 0xD => some (.f3 .ldaAbsX)
  | 0xE => some (.f3 .ldxAbsY)
  | _ => none

/-- Row Cx of the opcode map (R125). -/
def opcodeMapC (low : Nat) : Option Build :=
  match low with
  | 0x0 => some (.f2 .cpyImm)
  | 0x1 => some (.f2 .cmpIndX)
  | 0x4 => some (.f2 .cpyZp)
  | 0x5 => some (.f2 .cmpZp)
  | 0x6 => some (.f2 .decZp)
  | 0x8 => some (.f1 .iny)
  | 0x9 => some (.f2 .cmpImm)
  | 0xA => some (.f1 .dex)
  | 0xC => some (.f3 .cpyAbs)
  | 0xD => some (.f3 .cmpAbs)
  | 0xE => some (.f3 .decAbs)
  | _ => none

/-- Row Dx of the opcode map (R125). -/
def opcodeMapD (low : Nat) : Option Build :=
  match low with
  | 0x0 => some (.f2 .bne)
  | 0x1 => some (.f2 .cmpIndY)
  | 0x5 => some (.f2 .cmpZpX)
  | 0x6 => some (.f2 .decZpX)
  | 0x8 => some (.f1 .cld)
  | 0x9 => some (.f3 .cmpAbsY)
  | 0xD => some (.f3 .cmpAbsX)
  | 0xE => some (.f3 .decAbsX)
  | _ => none

/-- Row Ex of the opcode map (R125). -/
def opcodeMapE (low : Nat) : Option Build :=
  match low with
  | 0x0 => some (.f2 .cpxImm)
  | 0x1 => some (.f2 .sbcIndX)
  | 0x4 => some (.f2 .cpxZp)
  | 0x5 => some (.f2 .sbcZp)
  | 0x6 => some (.f2 .incZp)
  | 0x8 => some (.f1 .inx)
  | 0x9 => some (.f2 .sbcImm)
  | 0xA => some (.f1 .nop)
  | 0xC => some (.f3 .cpxAbs)
  | 0xD => some (.f3 .sbcAbs)
  | 0xE => some (.f3 .incAbs)
  | _ => none

/-- Row Fx of the opcode map (R125). -/
def opcodeMapF (low : Nat) : Option Build :=
  match low with
  | 0x0 => some (.f2 .beq)
  | 0x1 => some (.f2 .sbcIndY)
  | 0x5 => some (.f2 .sbcZpX)
  | 0x6 => some (.f2 .incZpX)
  | 0x8 => some (.f1 .sed)
  | 0x9 => some (.f3 .sbcAbsY)
  | 0xD => some (.f3 .sbcAbsX)
  | 0xE => some (.f3 .incAbsX)
  | _ => none

/-- The opcode map of COMPLETED (R108, R125): a lookup of the byte by its two nibbles. -/
def opcodeMap (op : Byte) : Option Build :=
  match op.toNat / 16 with
  | 0x0 => opcodeMap0 (op.toNat % 16)
  | 0x1 => opcodeMap1 (op.toNat % 16)
  | 0x2 => opcodeMap2 (op.toNat % 16)
  | 0x3 => opcodeMap3 (op.toNat % 16)
  | 0x4 => opcodeMap4 (op.toNat % 16)
  | 0x5 => opcodeMap5 (op.toNat % 16)
  | 0x6 => opcodeMap6 (op.toNat % 16)
  | 0x7 => opcodeMap7 (op.toNat % 16)
  | 0x8 => opcodeMap8 (op.toNat % 16)
  | 0x9 => opcodeMap9 (op.toNat % 16)
  | 0xA => opcodeMapA (op.toNat % 16)
  | 0xB => opcodeMapB (op.toNat % 16)
  | 0xC => opcodeMapC (op.toNat % 16)
  | 0xD => opcodeMapD (op.toNat % 16)
  | 0xE => opcodeMapE (op.toNat % 16)
  | 0xF => opcodeMapF (op.toNat % 16)
  | _ => none

/-- The five opcodes of SHOWN (R107). -/
def shownOpcodes : List Byte := [0x00, 0xA2, 0xA9, 0x95, 0xEA]

/-- The lookup of an opcode byte under an OPCODE_SET (R107–R109). -/
def opcodeLookup (set : OpcodeSet) (op : Byte) : Option Build :=
  match set with
  | .completed => opcodeMap op
  | .shown => if shownOpcodes.contains op then opcodeMap op else none

/-- Decode the first instruction of some bytes under an OPCODE_SET: the instruction and the bytes after it. -/
def decodeIn (set : OpcodeSet) (bytes : List Byte) : Except DecodeFailure (Instr × List Byte) :=
  match bytes with
  | [] => .error .truncated
  | op :: operands =>
    match opcodeLookup set op with
    | none => .error (.illegalOpcode op)
    | some (.f1 i) => .ok (i, operands)
    | some (.f2 f) =>
      match operands with
      | imm8 :: rest => .ok (f imm8, rest)
      | [] => .error .truncated
    | some (.f3 f) =>
      match operands with
      | lo :: hi :: rest => .ok (f (addrOf hi lo), rest)
      | [_] => .error .truncated
      | [] => .error .truncated

/-- Decode under COMPLETED, the spec's default (R7). -/
def decode (bytes : List Byte) : Except DecodeFailure (Instr × List Byte) := decodeIn .completed bytes

/-- Byte `k` of a word numbered as opcode_table.json numbers it: byte 0 is bits 7..0. -/
def byteOfWord (w k : Nat) : Byte := BitVec.ofNat 8 (w / 256 ^ k)

/-- The bytes of an instruction word in the order the hardware stores them, up to the longest instruction; the bits
above `nbits` are 0. -/
def wordBytes (nbits w : Nat) : List Byte :=
  [byteOfWord (w % 2 ^ nbits) 0, byteOfWord (w % 2 ^ nbits) 1, byteOfWord (w % 2 ^ nbits) 2]

/-- What the decoder reads from an instruction word of `nbits` bits. -/
def decodeTableWord (nbits w : Nat) : Option Instr :=
  match decode (wordBytes nbits w) with
  | .ok (i, _) => some i
  | .error _ => none

/-! ## The encoder -/

/-- The bytes of an instruction, opcode first, low operand byte before high (R100, R102; opcode_table.json). -/
def encode (i : Instr) : List Byte :=
  match i with
  | .brk => [0x00]
  | .oraIndX imm8 => [0x01, imm8]
  | .oraZp imm8 => [0x05, imm8]
  | .aslZp imm8 => [0x06, imm8]
  | .oraImm imm8 => [0x09, imm8]
  | .aslAcc => [0x0A]
  | .oraAbs addr => [0x0D, loByte addr, hiByte addr]
  | .aslAbs addr => [0x0E, loByte addr, hiByte addr]
  | .bpl rr => [0x10, rr]
  | .oraIndY imm8 => [0x11, imm8]
  | .oraZpX imm8 => [0x15, imm8]
  | .aslZpX imm8 => [0x16, imm8]
  | .clc => [0x18]
  | .oraAbsY addr => [0x19, loByte addr, hiByte addr]
  | .oraAbsX addr => [0x1D, loByte addr, hiByte addr]
  | .aslAbsX addr => [0x1E, loByte addr, hiByte addr]
  | .andIndX imm8 => [0x21, imm8]
  | .bitZp imm8 => [0x24, imm8]
  | .andZp imm8 => [0x25, imm8]
  | .rolZp imm8 => [0x26, imm8]
  | .andImm imm8 => [0x29, imm8]
  | .rolAcc => [0x2A]
  | .bitAbs addr => [0x2C, loByte addr, hiByte addr]
  | .andAbs addr => [0x2D, loByte addr, hiByte addr]
  | .rolAbs addr => [0x2E, loByte addr, hiByte addr]
  | .bmi rr => [0x30, rr]
  | .andIndY imm8 => [0x31, imm8]
  | .andZpX imm8 => [0x35, imm8]
  | .rolZpX imm8 => [0x36, imm8]
  | .sec => [0x38]
  | .andAbsY addr => [0x39, loByte addr, hiByte addr]
  | .andAbsX addr => [0x3D, loByte addr, hiByte addr]
  | .rolAbsX addr => [0x3E, loByte addr, hiByte addr]
  | .eorIndX imm8 => [0x41, imm8]
  | .eorZp imm8 => [0x45, imm8]
  | .lsrZp imm8 => [0x46, imm8]
  | .eorImm imm8 => [0x49, imm8]
  | .lsrAcc => [0x4A]
  | .jmpAbs addr => [0x4C, loByte addr, hiByte addr]
  | .eorAbs addr => [0x4D, loByte addr, hiByte addr]
  | .lsrAbs addr => [0x4E, loByte addr, hiByte addr]
  | .bvc rr => [0x50, rr]
  | .eorIndY imm8 => [0x51, imm8]
  | .eorZpX imm8 => [0x55, imm8]
  | .lsrZpX imm8 => [0x56, imm8]
  | .cli => [0x58]
  | .eorAbsY addr => [0x59, loByte addr, hiByte addr]
  | .eorAbsX addr => [0x5D, loByte addr, hiByte addr]
  | .lsrAbsX addr => [0x5E, loByte addr, hiByte addr]
  | .adcIndX imm8 => [0x61, imm8]
  | .adcZp imm8 => [0x65, imm8]
  | .rorZp imm8 => [0x66, imm8]
  | .adcImm imm8 => [0x69, imm8]
  | .rorAcc => [0x6A]
  | .jmpInd addr => [0x6C, loByte addr, hiByte addr]
  | .adcAbs addr => [0x6D, loByte addr, hiByte addr]
  | .rorAbs addr => [0x6E, loByte addr, hiByte addr]
  | .bvs rr => [0x70, rr]
  | .adcIndY imm8 => [0x71, imm8]
  | .adcZpX imm8 => [0x75, imm8]
  | .rorZpX imm8 => [0x76, imm8]
  | .sei => [0x78]
  | .adcAbsY addr => [0x79, loByte addr, hiByte addr]
  | .adcAbsX addr => [0x7D, loByte addr, hiByte addr]
  | .rorAbsX addr => [0x7E, loByte addr, hiByte addr]
  | .staIndX imm8 => [0x81, imm8]
  | .styZp imm8 => [0x84, imm8]
  | .staZp imm8 => [0x85, imm8]
  | .stxZp imm8 => [0x86, imm8]
  | .dey => [0x88]
  | .txa => [0x8A]
  | .styAbs addr => [0x8C, loByte addr, hiByte addr]
  | .staAbs addr => [0x8D, loByte addr, hiByte addr]
  | .stxAbs addr => [0x8E, loByte addr, hiByte addr]
  | .bcc rr => [0x90, rr]
  | .staIndY imm8 => [0x91, imm8]
  | .styZpX imm8 => [0x94, imm8]
  | .staZpX imm8 => [0x95, imm8]
  | .stxZpY imm8 => [0x96, imm8]
  | .tya => [0x98]
  | .staAbsY addr => [0x99, loByte addr, hiByte addr]
  | .staAbsX addr => [0x9D, loByte addr, hiByte addr]
  | .ldyImm imm8 => [0xA0, imm8]
  | .ldaIndX imm8 => [0xA1, imm8]
  | .ldxImm imm8 => [0xA2, imm8]
  | .ldyZp imm8 => [0xA4, imm8]
  | .ldaZp imm8 => [0xA5, imm8]
  | .ldxZp imm8 => [0xA6, imm8]
  | .tay => [0xA8]
  | .ldaImm imm8 => [0xA9, imm8]
  | .tax => [0xAA]
  | .ldyAbs addr => [0xAC, loByte addr, hiByte addr]
  | .ldaAbs addr => [0xAD, loByte addr, hiByte addr]
  | .ldxAbs addr => [0xAE, loByte addr, hiByte addr]
  | .bcs rr => [0xB0, rr]
  | .ldaIndY imm8 => [0xB1, imm8]
  | .ldyZpX imm8 => [0xB4, imm8]
  | .ldaZpX imm8 => [0xB5, imm8]
  | .ldxZpY imm8 => [0xB6, imm8]
  | .clv => [0xB8]
  | .ldaAbsY addr => [0xB9, loByte addr, hiByte addr]
  | .ldyAbsX addr => [0xBC, loByte addr, hiByte addr]
  | .ldaAbsX addr => [0xBD, loByte addr, hiByte addr]
  | .ldxAbsY addr => [0xBE, loByte addr, hiByte addr]
  | .cpyImm imm8 => [0xC0, imm8]
  | .cmpIndX imm8 => [0xC1, imm8]
  | .cpyZp imm8 => [0xC4, imm8]
  | .cmpZp imm8 => [0xC5, imm8]
  | .decZp imm8 => [0xC6, imm8]
  | .iny => [0xC8]
  | .cmpImm imm8 => [0xC9, imm8]
  | .dex => [0xCA]
  | .cpyAbs addr => [0xCC, loByte addr, hiByte addr]
  | .cmpAbs addr => [0xCD, loByte addr, hiByte addr]
  | .decAbs addr => [0xCE, loByte addr, hiByte addr]
  | .bne rr => [0xD0, rr]
  | .cmpIndY imm8 => [0xD1, imm8]
  | .cmpZpX imm8 => [0xD5, imm8]
  | .decZpX imm8 => [0xD6, imm8]
  | .cld => [0xD8]
  | .cmpAbsY addr => [0xD9, loByte addr, hiByte addr]
  | .cmpAbsX addr => [0xDD, loByte addr, hiByte addr]
  | .decAbsX addr => [0xDE, loByte addr, hiByte addr]
  | .cpxImm imm8 => [0xE0, imm8]
  | .sbcIndX imm8 => [0xE1, imm8]
  | .cpxZp imm8 => [0xE4, imm8]
  | .sbcZp imm8 => [0xE5, imm8]
  | .incZp imm8 => [0xE6, imm8]
  | .inx => [0xE8]
  | .sbcImm imm8 => [0xE9, imm8]
  | .nop => [0xEA]
  | .cpxAbs addr => [0xEC, loByte addr, hiByte addr]
  | .sbcAbs addr => [0xED, loByte addr, hiByte addr]
  | .incAbs addr => [0xEE, loByte addr, hiByte addr]
  | .beq rr => [0xF0, rr]
  | .sbcIndY imm8 => [0xF1, imm8]
  | .sbcZpX imm8 => [0xF5, imm8]
  | .incZpX imm8 => [0xF6, imm8]
  | .sed => [0xF8]
  | .sbcAbsY addr => [0xF9, loByte addr, hiByte addr]
  | .sbcAbsX addr => [0xFD, loByte addr, hiByte addr]
  | .incAbsX addr => [0xFE, loByte addr, hiByte addr]

/-- The length of an instruction in bytes (R101). -/
def Instr.length (i : Instr) : Nat := (encode i).length

end Sys2Proof
end

