-- ==== Sys2Proof/Machine/State.lean ====
section
/-! DEFINITION. The machine's state as plain data: the core's record (spec 10_state R30), the devices on the bus
(20_memory R60, R68, R75), the parameters the core was constructed with (70_reset_and_hazards R440), the ways a step
can stop, and the machine right after construction. -/

namespace Sys2Proof.Machine

/-- A Memory device (20_memory R68): its inclusive range and its contents. `cells` lists the bytes that are not 0, by
address, strictly rising; an address in range that is not listed holds 0 (R69, R71). The keys are bus addresses, not
offsets (assumption log 11, DEDUCED, safe). -/
structure Memory where
  lower : Addr
  upper : Addr
  cells : List Host.Cell
deriving DecidableEq, Repr

/-- A Bus Device (20_memory R61). -/
inductive Device where
  /-- the source's one device type (R68) -/
  | memory (m : Memory)
  /-- any other device (R75): which one it is and its own state; its behaviour is `Config.otherReadable`,
  `Config.otherWritable`, `Config.otherRead` and `Config.otherWrite` -/
  | other (kind : Nat) (st : List Byte)
deriving DecidableEq, Repr

/-- A fault record, codes 1 and 2 of 60_exceptions R400. -/
inductive FaultRecord where
  /-- code 1 (R401): the byte fetched and the address it was fetched from -/
  | decodeError (opcode : Byte) (address : Addr)
  /-- code 2 (R402): the micro-op and PC when it began -/
  | unimplementedOperation (microop : MicroOp) (pc : Addr)
deriving DecidableEq, Repr

/-- The four checks of the Instruction Table (30_encoding R106). -/
inductive TableCheck where
  /-- (a) an opcode with two entries -/
  | duplicateOpcode
  /-- (b) a StoreToRegister whose source is its destination -/
  | selfStore
  /-- (c) a ComputeAndStore whose function is Compare -/
  | compareInComputeAndStore
  /-- (d) a payload outside the domain its rule gives -/
  | payloadDomain
deriving DecidableEq, Repr

/-- Everything that holds a value between ticks. -/
structure State where
  /-- PC: the address of the next instruction-stream byte (R33) -/
  pc : Addr
  /-- A, the accumulator (R31) -/
  a : Byte
  /-- X, an index register (R31) -/
  x : Byte
  /-- Y, an index register (R31) -/
  y : Byte
  /-- N, negative (R36) -/
  flagN : Bool
  /-- V, overflow (R36) -/
  flagV : Bool
  /-- D, decimal: storage only (R37) -/
  flagD : Bool
  /-- I, interrupt disable: storage only (R37) -/
  flagI : Bool
  /-- Z, zero (R36) -/
  flagZ : Bool
  /-- C, carry (R36) -/
  flagC : Bool
  /-- IA, InternalAddress (R41) -/
  ia : Addr
  /-- IO, InternalOperand (R41) -/
  io : Byte
  /-- Q, the operation queue, next micro-op first (R44) -/
  queue : List MicroOp
  /-- set by the BRK micro-op, cleared by reset (R45) -/
  halted : Bool
  /-- the sticky fault record (R45) -/
  fault : Option FaultRecord
  /-- the monotonic total-cycle counter (R46) -/
  cycles : Nat
  /-- DEVICES in registration order, with their contents (20_memory R60) -/
  devices : List Device
  /-- OPCODE_SET, fixed at construction; it determines the Instruction Table (R30; log 3) -/
  opcodeSet : OpcodeSet
  /-- RESET_REGS, fixed at construction; reset reads it (70_reset_and_hazards R442; log 1) -/
  resetRegs : ResetRegs
deriving DecidableEq, Repr

/-- The faults a tick can end in (60_exceptions R400, codes 1 and 2). The tick "returns the fault record to the
host"; `after` is the whole state as R401 or R402 leaves it, with the record in its `fault` field (log 6). Stopping
here is safe: it is the spec's own stop. -/
inductive Fault where
  /-- Raised by FetchOpcode on a byte the Instruction Table does not populate (R401). Safe: the spec's own fault. -/
  | decodeError (opcode : Byte) (address : Addr) (after : State)
  /-- Raised by a micro-op whose payload has no meaning (R402, R198), which no well-formed table holds. Safe: the
  spec's own fault, and no run from construction reaches it. -/
  | unimplementedOperation (microop : MicroOp) (pc : Addr) (after : State)
deriving DecidableEq, Repr

/-- What is refused without any change of state. Every refusal but `notModelled` is the spec's own or a host
operation's; all are safe. -/
inductive Refusal where
  /-- An instruction without a meaning, rejected by name in `exec`. No arm raises it: every instruction has its
  meaning. -/
  | notModelled (mnemonic : String)
  /-- Raised by a tick or step while halted or faulted (60_exceptions R405). Safe: the spec refuses it. -/
  | tickAfterStop
  /-- Raised by construction from a table that fails a check (60_exceptions R403, code 3). Safe: the spec refuses
  it. -/
  | invariantViolation (opcode : Byte) (check : TableCheck)
  /-- Raised by a bulk load outside the device's range (20_memory R72). Safe: the spec refuses it. -/
  | bulkLoadOutOfRange
  /-- Raised by registering a Memory with lower > upper (20_memory R68). Safe: the spec refuses it. -/
  | illFormedMemory
  /-- Raised by registering a device after the first tick (20_memory R60). Safe: the spec forbids it (log 13). -/
  | registrationClosed
  /-- Raised by a bulk load or dump of a device that is not a Memory, or of no device. Safe: those operations are a
  Memory's (20_memory R72, R73; log 13). -/
  | notAMemory
  /-- Raised by a dump whose range is not inside the Memory's. Safe: the spec gives it no result (log 13). -/
  | dumpOutOfRange
deriving DecidableEq, Repr

/-- The state right after construction from OPCODE_SET, RESET_REGS and the platform's devices
(70_reset_and_hazards R440). -/
def State.constructed (set : OpcodeSet) (regs : ResetRegs) (devices : List Device) : State :=
  { pc := Config.resetVector, a := regs.a, x := regs.x, y := regs.y,
    flagN := regs.flagN, flagV := regs.flagV, flagD := regs.flagD, flagI := regs.flagI, flagZ := regs.flagZ,
    flagC := regs.flagC, ia := regs.internalAddress, io := regs.internalOperand,
    queue := bootSequence, halted := false, fault := none, cycles := 0,
    devices := devices, opcodeSet := set, resetRegs := regs }

/-- One Memory over the whole address space with nothing written: the platform of 95_test_vectors' conventions.
DESIGN CHOICE (log 2), unsafe: the spec leaves DEVICES to the host. -/
def Memory.whole : Memory := { lower := 0x0000, upper := 0xFFFF, cells := [] }

/-- The machine right after reset: constructed with the spec's default OPCODE_SET (R7; log 3), RESET_REGS all zero
(R8; DESIGN CHOICE, log 1, unsafe) and one whole Memory (log 2). -/
def State.reset : State :=
  State.constructed .completed .zero [.memory .whole]

end Sys2Proof.Machine
end

