-- ==== Sys2Proof/Machine/Ops.lean ====
section
/-! DEFINITION. The named operations over memory, devices and the bus (spec 20_memory), over the registers and flags
(10_state), and raising a fault (60_exceptions R404): the one place each is written. -/

namespace Sys2Proof.Machine

/-! ## Memory devices (20_memory R68–R71) -/

/-- The byte listed at an address, 0 where none is: "default 0 for never-written offsets" (R69). -/
def cellsRead : List Host.Cell → Nat → Byte
  | [], _ => 0x00#8
  | (k, v) :: rest, at' => if k = at' then v else cellsRead rest at'

/-- Store a byte, keeping the addresses strictly rising and no byte 0 listed. -/
def cellsWrite : List Host.Cell → Nat → Byte → List Host.Cell
  | [], at', v => if v = 0#8 then [] else [(at', v)]
  | (k, w) :: rest, at', v =>
    if at' < k then (if v = 0#8 then (k, w) :: rest else (at', v) :: (k, w) :: rest)
    else if at' = k then (if v = 0#8 then rest else (at', v) :: rest)
    else (k, w) :: cellsWrite rest at' v

/-- The canonical form: addresses strictly rising from `low` up to `high`, and no byte 0 listed. -/
def cellsWf (high : Nat) : Nat → List Host.Cell → Bool
  | _, [] => true
  | low, (k, v) :: rest => decide (low ≤ k) && decide (k ≤ high) && v != 0#8 && cellsWf high (k + 1) rest

/-- A well-formed Memory: lower ≤ upper (R68) and its contents in the canonical form, inside its range. -/
def Memory.wf (m : Memory) : Bool :=
  decide (m.lower.toNat ≤ m.upper.toNat) && cellsWf m.upper.toNat m.lower.toNat m.cells

/-- "inclusive membership in [lower, upper]" (R68), both of a Memory's membership tests. -/
def Memory.covers (m : Memory) (addr : Addr) : Bool :=
  decide (m.lower.toNat ≤ addr.toNat) && decide (addr.toNat ≤ m.upper.toNat)

/-- `Memory.do_read` (R69). -/
def Memory.read (m : Memory) (addr : Addr) : Byte := cellsRead m.cells addr.toNat

/-- `Memory.do_write` (R70). -/
def Memory.write (m : Memory) (addr : Addr) (v : Byte) : Memory :=
  { m with cells := cellsWrite m.cells addr.toNat v }

/-! ## Bus devices (R61) -/

/-- `is_readable_for` (R61, R68, R75). -/
def Device.isReadableFor (d : Device) (addr : Addr) : Bool :=
  match d with
  | .memory m => m.covers addr
  | .other kind st => Config.otherReadable kind st addr

/-- `is_writable_for` (R61, R68, R75). -/
def Device.isWritableFor (d : Device) (addr : Addr) : Bool :=
  match d with
  | .memory m => m.covers addr
  | .other kind st => Config.otherWritable kind st addr

/-- `do_read`: the byte and the device after; a Memory read changes nothing (R69), another device's may (R75). -/
def Device.doRead (d : Device) (addr : Addr) : Byte × Device :=
  match d with
  | .memory m => (m.read addr, .memory m)
  | .other kind st => ((Config.otherRead kind st addr).1, .other kind (Config.otherRead kind st addr).2)

/-- `do_write`: the device after (R70, R75). -/
def Device.doWrite (d : Device) (addr : Addr) (v : Byte) : Device :=
  match d with
  | .memory m => .memory (m.write addr v)
  | .other kind st => .other kind (Config.otherWrite kind st addr v)

/-- A device in its canonical form: a Memory is well-formed. -/
def Device.wf : Device → Bool
  | .memory m => m.wf
  | .other _ _ => true

/-- `Bus.read` (R63): the first readable device in registration order answers, and only it is read; 0x00 if none. -/
def busRead : List Device → Addr → Byte × List Device
  | [], _ => (0x00#8, [])
  | d :: ds, addr =>
    if d.isReadableFor addr then ((d.doRead addr).1, (d.doRead addr).2 :: ds)
    else ((busRead ds addr).1, d :: (busRead ds addr).2)

/-- `Bus.write` (R66): every writable device stores the byte, in registration order; none does, nothing happens. -/
def busWrite : List Device → Addr → Byte → List Device
  | [], _, _ => []
  | d :: ds, addr, v =>
    (if d.isWritableFor addr then d.doWrite addr v else d) :: busWrite ds addr v

/-- The core's `MemRead(addr, 1)` (R64): the byte, and the state with the devices after the access. -/
def State.memRead (s : State) (addr : Addr) : Byte × State :=
  ((busRead s.devices addr).1, { s with devices := (busRead s.devices addr).2 })

/-- The core's `MemWrite(addr, 1, v)` (R65). -/
def State.memWrite (s : State) (addr : Addr) (v : Byte) : State :=
  { s with devices := busWrite s.devices addr v }

/-! ## Registers and flags -/

/-- `x[r]` (00_scope R13). -/
def State.getReg (s : State) : Reg8 → Byte
  | .a => s.a
  | .x => s.x
  | .y => s.y
  | .internalOperand => s.io

/-- `x[r] <- v` (00_scope R13). -/
def State.setReg (s : State) (r : Reg8) (v : Byte) : State :=
  match r with
  | .a => { s with a := v }
  | .x => { s with x := v }
  | .y => { s with y := v }
  | .internalOperand => { s with io := v }

/-- The value of an AddrReg (10_state R32). -/
def State.getAddrReg (s : State) : AddrReg → Addr
  | .pc => s.pc
  | .internalAddress => s.ia

/-- The value of a flag (10_state R36). -/
def State.getFlag (s : State) : Flag → Bool
  | .n => s.flagN
  | .v => s.flagV
  | .d => s.flagD
  | .i => s.flagI
  | .z => s.flagZ
  | .c => s.flagC

/-- Write one flag (10_state R36). -/
def State.putFlag (s : State) (f : Flag) (b : Bool) : State :=
  match f with
  | .n => { s with flagN := b }
  | .v => { s with flagV := b }
  | .d => { s with flagD := b }
  | .i => { s with flagI := b }
  | .z => { s with flagZ := b }
  | .c => { s with flagC := b }

/-- Move past an instruction of `len` bytes that takes `ticks` ticks: PC advances by one for each instruction-stream
byte consumed (10_state R33), wrapping at 0xFFFF (R34), and `cycles` counts the ticks (R46; 40_sequencer R161). -/
def State.advance (s : State) (len ticks : Nat) : State :=
  { s with pc := s.pc + BitVec.ofNat 16 len, cycles := s.cycles + ticks }

/-! ## Stopping -/

/-- Halted or faulted: ticks are refused (60_exceptions R405). -/
def State.stopped (s : State) : Bool := s.halted || s.fault.isSome

/-- The numeric codes of the run-time faults (60_exceptions R400). -/
def FaultRecord.code : FaultRecord → Nat
  | .decodeError _ _ => 1
  | .unimplementedOperation _ _ => 2

/-- The numeric code of a refusal (60_exceptions R400): InvariantViolation has code 3, and no other refusal has a code
(TickAfterStop's row reads "none"; the remaining refusals are not in R400's table). -/
def Refusal.code : Refusal → Option Nat
  | .invariantViolation _ _ => some 3
  | _ => none

/-- The outcome a record gives when the tick returns it, with the state as it then stands. -/
def FaultRecord.toFault (r : FaultRecord) (after : State) : Fault :=
  match r with
  | .decodeError opcode address => .decodeError opcode address after
  | .unimplementedOperation microop pc => .unimplementedOperation microop pc after

/-- Raise a fault (R404): the record is set, which is sticky, and the tick returns it instead of (PC, halted). There
is no vector, no saved register and no mode to change (R409). `s` is the state where the micro-op stopped (00_scope
R14). -/
def State.raise (s : State) (r : FaultRecord) : Host.Outcome State Fault Refusal :=
  .fault (r.toFault { s with fault := some r })

/-- The host's reset (70_reset_and_hazards R442): the boot sequence replaces Q, PC and the registers take their reset
values, halted clears; cycles, the fault, the table and the devices are unchanged. -/
def State.resetCore (s : State) : State :=
  { s with
    queue := bootSequence, pc := Config.resetVector,
    a := s.resetRegs.a, x := s.resetRegs.x, y := s.resetRegs.y,
    flagN := s.resetRegs.flagN, flagV := s.resetRegs.flagV, flagD := s.resetRegs.flagD,
    flagI := s.resetRegs.flagI, flagZ := s.resetRegs.flagZ, flagC := s.resetRegs.flagC,
    ia := s.resetRegs.internalAddress, io := s.resetRegs.internalOperand, halted := false }

end Sys2Proof.Machine
end

