-- ==== Sys2Proof/Machine/Flags.lean ====
section
/-! DEFINITION. Every flag and result computation of the ALU stub (spec 41_microops_alu R181, R187–R193). -/

namespace Sys2Proof.Machine

/-- `setNZ(v)`: N <- v[7]; Z <- (v == 0x00) (R181). -/
def State.setNZ (s : State) (v : Byte) : State :=
  { s with flagN := v.getLsbD 7, flagZ := v == 0x00#8 }

/-- What an ALU function gives: the result, and the carry and overflow it computes. -/
structure AluResult where
  result : Byte
  carry : Bool
  overflow : Bool
deriving DecidableEq, Repr

/-- The adder of R188 and R190, exact in 9 bits: the carry is the unsigned carry-out, the overflow
`((left ^ result) & (right ^ result) & 0x80) != 0`, where `right` is the value that enters the adder (R189). -/
def adder (left right : Byte) (carryIn : Bool) : AluResult :=
  let t : BitVec 9 := left.zeroExtend 9 + right.zeroExtend 9 + (BitVec.ofBool carryIn).zeroExtend 9
  let r : Byte := t.setWidth 8
  { result := r, carry := t.getLsbD 8, overflow := ((left ^^^ r) &&& (right ^^^ r) &&& 0x80#8) != 0#8 }

/-- Whether the function writes C and V (R186): only the adder's two do (90_conflicts C3). -/
def AluFunc.writesCarry : AluFunc → Bool
  | .addWithCarry | .subtractWithBorrow => true
  | .or | .and | .eor | .compare => false

/-- `ALU(func, l, m, c)` (R187–R190): SubtractWithBorrow adds the complemented operand (R190); arithmetic is binary
whatever D holds (R188). The carry and overflow given for the logic functions are not used (R186), and `compare` has
no meaning in ComputeAndStore (R197), which `MicroOp.wf` refuses before this is reached. -/
def AluFunc.apply (func : AluFunc) (l m : Byte) (c : Bool) : AluResult :=
  match func with
  | .or => { result := l ||| m, carry := c, overflow := false }
  | .and => { result := l &&& m, carry := c, overflow := false }
  | .eor => { result := l ^^^ m, carry := c, overflow := false }
  | .addWithCarry => adder l m c
  | .subtractWithBorrow => adder l (~~~m) c
  | .compare => { result := l - m, carry := c, overflow := false }

/-- The flags of CompareToRegister (R191): N and Z of `reg - src`, C = (reg ≥ src) unsigned; V unchanged, the
incoming C unused. -/
def State.setCompareFlags (s : State) (reg src : Byte) : State :=
  { s.setNZ (reg - src) with flagC := src.ule reg }

/-- The flags of BitTest (R192): N and V copy bits 7 and 6 of the operand, Z is of the AND; C unchanged. -/
def State.setBitFlags (s : State) (reg operand : Byte) : State :=
  { s with flagN := operand.getLsbD 7, flagV := operand.getLsbD 6, flagZ := (reg &&& operand) == 0x00#8 }

/-- The result of ModifyRegister's functions (R193), `c` being C before. -/
def ModifyFunc.result (func : ModifyFunc) (v : Byte) (c : Bool) : Byte :=
  match func with
  | .increment => v + 1#8
  | .decrement => v - 1#8
  | .shiftLeft => v <<< 1
  | .shiftRight => v >>> 1
  | .rotateLeft => (v <<< 1) ||| (BitVec.ofBool c).zeroExtend 8
  | .rotateRight => (v >>> 1) ||| ((BitVec.ofBool c).zeroExtend 8 <<< 7)

/-- C after ModifyRegister's functions (R193): the bit shifted out; unchanged by Increment and Decrement. -/
def ModifyFunc.carry (func : ModifyFunc) (v : Byte) (c : Bool) : Bool :=
  match func with
  | .increment => c
  | .decrement => c
  | .shiftLeft => v.getLsbD 7
  | .shiftRight => v.getLsbD 0
  | .rotateLeft => v.getLsbD 7
  | .rotateRight => v.getLsbD 0

end Sys2Proof.Machine
end

