-- ==== Sys2Proof/Machine/Operands.lean ====
section
/-! DEFINITION. The operand forms: what each addressing mode leaves in IA ("EA") and IO ("operand") (spec 30_encoding
R110–R120), given the operand bytes the decoder read. The same bytes reach the machine one a tick in Machine/Tick.lean. -/

namespace Sys2Proof.Machine

/-- Immediate (R110): operand = imm8 in IO. Also the displacement of Relative (R120). -/
def immediate (imm8 : Byte) (s : State) : State := { s with io := imm8 }

/-- ZeroPage (R111): EA = {0x00, imm8}. -/
def eaZeroPage (imm8 : Byte) (s : State) : State := { s with ia := addrOf 0x00#8 imm8 }

/-- ZeroPageX (R112): EA = {0x00, (imm8 + X)[7:0]}. -/
def eaZeroPageX (imm8 : Byte) (s : State) : State := { s with ia := addrOf 0x00#8 (imm8 + s.x) }

/-- ZeroPageY (R113): EA = {0x00, (imm8 + Y)[7:0]}. -/
def eaZeroPageY (imm8 : Byte) (s : State) : State := { s with ia := addrOf 0x00#8 (imm8 + s.y) }

/-- Absolute (R114): EA = {addr_hi, addr_lo}. -/
def eaAbsolute (addr : Addr) (s : State) : State := { s with ia := addr }

/-- AbsoluteX (R115): EA = (addr + zext_16(X)) mod 2^16. -/
def eaAbsoluteX (addr : Addr) (s : State) : State := { s with ia := addr + s.x.zeroExtend 16 }

/-- AbsoluteY (R116): EA = (addr + zext_16(Y)) mod 2^16. -/
def eaAbsoluteY (addr : Addr) (s : State) : State := { s with ia := addr + s.y.zeroExtend 16 }

/-- Where a pointer's high byte is: the next address in the same 256-byte page (40_sequencer R156). -/
def pointerHighAddr (p : Addr) : Addr := addrOf (hiByte p) (loByte p + 1#8)

/-- ReadAddressLo (40_sequencer R155): IO <- MemRead(IA, 1); IA is unchanged. -/
def readAddressLo (s : State) : State :=
  { (s.memRead s.ia).2 with io := (s.memRead s.ia).1 }

/-- ReadAddressHi (40_sequencer R156): the high byte from the same page, then IA <- {hi, IO}. -/
def readAddressHi (s : State) : State :=
  { (s.memRead (pointerHighAddr s.ia)).2 with ia := addrOf (s.memRead (pointerHighAddr s.ia)).1 s.io }

/-- Replace the pointer address in IA by the address stored there, low byte first. -/
def dereference (s : State) : State := readAddressHi (readAddressLo s)

/-- Indirect (R117): EA = {MemRead of P's high-byte address, MemRead(P)} with P = addr. -/
def eaIndirect (addr : Addr) (s : State) : State := dereference (eaAbsolute addr s)

/-- IndexedIndirect (R118): the pointer is in page zero at (imm8 + X)[7:0]. -/
def eaIndexedIndirect (imm8 : Byte) (s : State) : State := dereference (eaZeroPageX imm8 s)

/-- Add Y to IA with carry across the full 16 bits (40_sequencer R154). -/
def addYToAddress (s : State) : State := { s with ia := s.ia + s.y.zeroExtend 16 }

/-- IndirectIndexed (R119): the pointer is in page zero at imm8; Y is added to the address found there. -/
def eaIndirectIndexed (imm8 : Byte) (s : State) : State := addYToAddress (dereference (eaZeroPage imm8 s))

/-- ReadOperand (40_sequencer R157): IO <- MemRead(IA, 1). -/
def readOperand (s : State) : State :=
  { (s.memRead s.ia).2 with io := (s.memRead s.ia).1 }

end Sys2Proof.Machine
end

