-- ==== Sys2Proof/Machine/Semantic.lean ====
section
/-! DEFINITION. The semantic micro-ops (spec 41_microops_alu R182–R196), each one operation on the state, and the
suffixes of the instruction classes built from them (30_encoding R123). Micro-ops and instructions both use these. -/

namespace Sys2Proof.Machine

/-- StoreToRegister{src, dst} (R182), which sets N and Z except into InternalOperand (R185). -/
def storeToRegister (src dst : Reg8) (s : State) : State :=
  match dst with
  | .internalOperand => s.setReg dst (s.getReg src)
  | .a | .x | .y => (s.setReg dst (s.getReg src)).setNZ (s.getReg src)

/-- WriteToAddress{src, addr} (R183): one bus write; no register or flag changes. -/
def writeToAddress (src : Reg8) (addr : AddrReg) (s : State) : State :=
  s.memWrite (s.getAddrReg addr) (s.getReg src)

/-- JumpToAddress (R184): PC <- IA. -/
def jumpToAddress (s : State) : State := { s with pc := s.ia }

/-- ComputeAndStore{left, dst, func} (R186): the right operand is IO, the carry in is C. -/
def computeAndStore (left dst : Reg8) (func : AluFunc) (s : State) : State :=
  let out := func.apply (s.getReg left) s.io s.flagC
  let t := (s.setReg dst out.result).setNZ out.result
  if func.writesCarry then { t with flagC := out.carry, flagV := out.overflow } else t

/-- CompareToRegister{src, reg2} (R191): reg2 − src, flags only. -/
def compareToRegister (src reg2 : Reg8) (s : State) : State :=
  s.setCompareFlags (s.getReg reg2) (s.getReg src)

/-- BitTest{reg} (R192). -/
def bitTest (reg : Reg8) (s : State) : State := s.setBitFlags (s.getReg reg) s.io

/-- ModifyRegister{reg, func} (R193): N and Z from the result, also when reg = InternalOperand; V unchanged. -/
def modifyRegister (reg : Reg8) (func : ModifyFunc) (s : State) : State :=
  let r := func.result (s.getReg reg) s.flagC
  { (s.setReg reg r).setNZ r with flagC := func.carry (s.getReg reg) s.flagC }

/-- SetFlag{flag, value} (R194): the flag and nothing else. -/
def setFlag (flag : Flag) (value : Bool) (s : State) : State := s.putFlag flag value

/-- BRK (R196): halted <- 1 and nothing else. -/
def halt (s : State) : State := { s with halted := true }

/-- IncrementPCBySignedOperand{cond} (40_sequencer R158): PC already points past the displacement. -/
def incrementPCBySignedOperand (cond : Cond) (s : State) : State :=
  if s.getFlag cond.flag = cond.value then { s with pc := s.pc + s.io.signExtend 16 } else s

/-! ## Class suffixes (30_encoding R123), over the state whose IA holds the effective address -/

/-- load, memory modes: `r <- M; setNZ(r)` -/
def loadMemory (r : Reg8) (s : State) : State := storeToRegister .internalOperand r (readOperand s)

/-- load, Immediate -/
def loadImmediate (r : Reg8) (imm8 : Byte) (s : State) : State :=
  storeToRegister .internalOperand r (immediate imm8 s)

/-- store: `MemWrite(EA, 1, r)` -/
def storeMemory (r : Reg8) (s : State) : State := writeToAddress r .internalAddress s

/-- ALU, memory modes -/
def aluMemory (f : AluFunc) (s : State) : State := computeAndStore .a .a f (readOperand s)

/-- ALU, Immediate -/
def aluImmediate (f : AluFunc) (imm8 : Byte) (s : State) : State := computeAndStore .a .a f (immediate imm8 s)

/-- compare, memory modes -/
def compareMemory (r : Reg8) (s : State) : State := compareToRegister .internalOperand r (readOperand s)

/-- compare, Immediate -/
def compareImmediate (r : Reg8) (imm8 : Byte) (s : State) : State :=
  compareToRegister .internalOperand r (immediate imm8 s)

/-- bit test -/
def bitTestMemory (s : State) : State := bitTest .a (readOperand s)

/-- read-modify-write, memory: one read, then one write of the result to the same address (44_shift_incdec R300) -/
def modifyMemory (g : ModifyFunc) (s : State) : State :=
  writeToAddress .internalOperand .internalAddress (modifyRegister .internalOperand g (readOperand s))

/-- branch: the displacement staged in IO, then the conditional addition to PC -/
def branch (flag : Flag) (value : Bool) (rr : Byte) (s : State) : State :=
  incrementPCBySignedOperand { flag := flag, value := value } (immediate rr s)

end Sys2Proof.Machine
end

