-- ==== Sys2Proof/Machine/AluCompare.lean ====
section
/-! DEFINITION. Arithmetic, logic, compare and bit test (spec 43_alu_compare): one meaning per opcode, the
net effect its rule gives. `advance` moves past the instruction's bytes and counts its ticks. None of them faults (R270). -/

namespace Sys2Proof.Machine

/-! ### ADC (R260): (A, C, V) <- AddWithCarry(A, M, C); setNZ(A) -/

/-- `ADC ($nn,X)` 0x61 (R260): IndexedIndirect, 2 bytes, 7 ticks. -/
def execAdcIndX (imm8 : Byte) (s : State) : Host.Outcome State Fault Refusal :=
  .next (aluMemory .addWithCarry (eaIndexedIndirect imm8 (s.advance 2 7)))

/-- `ADC $nn` 0x65 (R260): ZeroPage, 2 bytes, 4 ticks. -/
def execAdcZp (imm8 : Byte) (s : State) : Host.Outcome State Fault Refusal :=
  .next (aluMemory .addWithCarry (eaZeroPage imm8 (s.advance 2 4)))

/-- `ADC #$nn` 0x69 (R260): Immediate, 2 bytes, 3 ticks. -/
def execAdcImm (imm8 : Byte) (s : State) : Host.Outcome State Fault Refusal :=
  .next (aluImmediate .addWithCarry imm8 (s.advance 2 3))

/-- `ADC $hhll` 0x6D (R260): Absolute, 3 bytes, 5 ticks. -/
def execAdcAbs (addr : Addr) (s : State) : Host.Outcome State Fault Refusal :=
  .next (aluMemory .addWithCarry (eaAbsolute addr (s.advance 3 5)))

/-- `ADC ($nn),Y` 0x71 (R260): IndirectIndexed, 2 bytes, 7 ticks. -/
def execAdcIndY (imm8 : Byte) (s : State) : Host.Outcome State Fault Refusal :=
  .next (aluMemory .addWithCarry (eaIndirectIndexed imm8 (s.advance 2 7)))

/-- `ADC $nn,X` 0x75 (R260): ZeroPageX, 2 bytes, 5 ticks. -/
def execAdcZpX (imm8 : Byte) (s : State) : Host.Outcome State Fault Refusal :=
  .next (aluMemory .addWithCarry (eaZeroPageX imm8 (s.advance 2 5)))

/-- `ADC $hhll,Y` 0x79 (R260): AbsoluteY, 3 bytes, 6 ticks. -/
def execAdcAbsY (addr : Addr) (s : State) : Host.Outcome State Fault Refusal :=
  .next (aluMemory .addWithCarry (eaAbsoluteY addr (s.advance 3 6)))

/-- `ADC $hhll,X` 0x7D (R260): AbsoluteX, 3 bytes, 6 ticks. -/
def execAdcAbsX (addr : Addr) (s : State) : Host.Outcome State Fault Refusal :=
  .next (aluMemory .addWithCarry (eaAbsoluteX addr (s.advance 3 6)))

/-! ### SBC (R261): (A, C, V) <- SubtractWithBorrow(A, M, C); setNZ(A) -/

/-- `SBC ($nn,X)` 0xE1 (R261): IndexedIndirect, 2 bytes, 7 ticks. -/
def execSbcIndX (imm8 : Byte) (s : State) : Host.Outcome State Fault Refusal :=
  .next (aluMemory .subtractWithBorrow (eaIndexedIndirect imm8 (s.advance 2 7)))

/-- `SBC $nn` 0xE5 (R261): ZeroPage, 2 bytes, 4 ticks. -/
def execSbcZp (imm8 : Byte) (s : State) : Host.Outcome State Fault Refusal :=
  .next (aluMemory .subtractWithBorrow (eaZeroPage imm8 (s.advance 2 4)))

/-- `SBC #$nn` 0xE9 (R261): Immediate, 2 bytes, 3 ticks. -/
def execSbcImm (imm8 : Byte) (s : State) : Host.Outcome State Fault Refusal :=
  .next (aluImmediate .subtractWithBorrow imm8 (s.advance 2 3))

/-- `SBC $hhll` 0xED (R261): Absolute, 3 bytes, 5 ticks. -/
def execSbcAbs (addr : Addr) (s : State) : Host.Outcome State Fault Refusal :=
  .next (aluMemory .subtractWithBorrow (eaAbsolute addr (s.advance 3 5)))

/-- `SBC ($nn),Y` 0xF1 (R261): IndirectIndexed, 2 bytes, 7 ticks. -/
def execSbcIndY (imm8 : Byte) (s : State) : Host.Outcome State Fault Refusal :=
  .next (aluMemory .subtractWithBorrow (eaIndirectIndexed imm8 (s.advance 2 7)))

/-- `SBC $nn,X` 0xF5 (R261): ZeroPageX, 2 bytes, 5 ticks. -/
def execSbcZpX (imm8 : Byte) (s : State) : Host.Outcome State Fault Refusal :=
  .next (aluMemory .subtractWithBorrow (eaZeroPageX imm8 (s.advance 2 5)))

/-- `SBC $hhll,Y` 0xF9 (R261): AbsoluteY, 3 bytes, 6 ticks. -/
def execSbcAbsY (addr : Addr) (s : State) : Host.Outcome State Fault Refusal :=
  .next (aluMemory .subtractWithBorrow (eaAbsoluteY addr (s.advance 3 6)))

/-- `SBC $hhll,X` 0xFD (R261): AbsoluteX, 3 bytes, 6 ticks. -/
def execSbcAbsX (addr : Addr) (s : State) : Host.Outcome State Fault Refusal :=
  .next (aluMemory .subtractWithBorrow (eaAbsoluteX addr (s.advance 3 6)))

/-! ### AND (R262): A <- A & M; setNZ(A) -/

/-- `AND ($nn,X)` 0x21 (R262): IndexedIndirect, 2 bytes, 7 ticks. -/
def execAndIndX (imm8 : Byte) (s : State) : Host.Outcome State Fault Refusal :=
  .next (aluMemory .and (eaIndexedIndirect imm8 (s.advance 2 7)))

/-- `AND $nn` 0x25 (R262): ZeroPage, 2 bytes, 4 ticks. -/
def execAndZp (imm8 : Byte) (s : State) : Host.Outcome State Fault Refusal :=
  .next (aluMemory .and (eaZeroPage imm8 (s.advance 2 4)))

/-- `AND #$nn` 0x29 (R262): Immediate, 2 bytes, 3 ticks. -/
def execAndImm (imm8 : Byte) (s : State) : Host.Outcome State Fault Refusal :=
  .next (aluImmediate .and imm8 (s.advance 2 3))

/-- `AND $hhll` 0x2D (R262): Absolute, 3 bytes, 5 ticks. -/
def execAndAbs (addr : Addr) (s : State) : Host.Outcome State Fault Refusal :=
  .next (aluMemory .and (eaAbsolute addr (s.advance 3 5)))

/-- `AND ($nn),Y` 0x31 (R262): IndirectIndexed, 2 bytes, 7 ticks. -/
def execAndIndY (imm8 : Byte) (s : State) : Host.Outcome State Fault Refusal :=
  .next (aluMemory .and (eaIndirectIndexed imm8 (s.advance 2 7)))

/-- `AND $nn,X` 0x35 (R262): ZeroPageX, 2 bytes, 5 ticks. -/
def execAndZpX (imm8 : Byte) (s : State) : Host.Outcome State Fault Refusal :=
  .next (aluMemory .and (eaZeroPageX imm8 (s.advance 2 5)))

/-- `AND $hhll,Y` 0x39 (R262): AbsoluteY, 3 bytes, 6 ticks. -/
def execAndAbsY (addr : Addr) (s : State) : Host.Outcome State Fault Refusal :=
  .next (aluMemory .and (eaAbsoluteY addr (s.advance 3 6)))

/-- `AND $hhll,X` 0x3D (R262): AbsoluteX, 3 bytes, 6 ticks. -/
def execAndAbsX (addr : Addr) (s : State) : Host.Outcome State Fault Refusal :=
  .next (aluMemory .and (eaAbsoluteX addr (s.advance 3 6)))

/-! ### ORA (R263): A <- A | M; setNZ(A) -/

/-- `ORA ($nn,X)` 0x01 (R263): IndexedIndirect, 2 bytes, 7 ticks. -/
def execOraIndX (imm8 : Byte) (s : State) : Host.Outcome State Fault Refusal :=
  .next (aluMemory .or (eaIndexedIndirect imm8 (s.advance 2 7)))

/-- `ORA $nn` 0x05 (R263): ZeroPage, 2 bytes, 4 ticks. -/
def execOraZp (imm8 : Byte) (s : State) : Host.Outcome State Fault Refusal :=
  .next (aluMemory .or (eaZeroPage imm8 (s.advance 2 4)))

/-- `ORA #$nn` 0x09 (R263): Immediate, 2 bytes, 3 ticks. -/
def execOraImm (imm8 : Byte) (s : State) : Host.Outcome State Fault Refusal :=
  .next (aluImmediate .or imm8 (s.advance 2 3))

/-- `ORA $hhll` 0x0D (R263): Absolute, 3 bytes, 5 ticks. -/
def execOraAbs (addr : Addr) (s : State) : Host.Outcome State Fault Refusal :=
  .next (aluMemory .or (eaAbsolute addr (s.advance 3 5)))

/-- `ORA ($nn),Y` 0x11 (R263): IndirectIndexed, 2 bytes, 7 ticks. -/
def execOraIndY (imm8 : Byte) (s : State) : Host.Outcome State Fault Refusal :=
  .next (aluMemory .or (eaIndirectIndexed imm8 (s.advance 2 7)))

/-- `ORA $nn,X` 0x15 (R263): ZeroPageX, 2 bytes, 5 ticks. -/
def execOraZpX (imm8 : Byte) (s : State) : Host.Outcome State Fault Refusal :=
  .next (aluMemory .or (eaZeroPageX imm8 (s.advance 2 5)))

/-- `ORA $hhll,Y` 0x19 (R263): AbsoluteY, 3 bytes, 6 ticks. -/
def execOraAbsY (addr : Addr) (s : State) : Host.Outcome State Fault Refusal :=
  .next (aluMemory .or (eaAbsoluteY addr (s.advance 3 6)))

/-- `ORA $hhll,X` 0x1D (R263): AbsoluteX, 3 bytes, 6 ticks. -/
def execOraAbsX (addr : Addr) (s : State) : Host.Outcome State Fault Refusal :=
  .next (aluMemory .or (eaAbsoluteX addr (s.advance 3 6)))

/-! ### EOR (R264): A <- A ^ M; setNZ(A) -/

/-- `EOR ($nn,X)` 0x41 (R264): IndexedIndirect, 2 bytes, 7 ticks. -/
def execEorIndX (imm8 : Byte) (s : State) : Host.Outcome State Fault Refusal :=
  .next (aluMemory .eor (eaIndexedIndirect imm8 (s.advance 2 7)))

/-- `EOR $nn` 0x45 (R264): ZeroPage, 2 bytes, 4 ticks. -/
def execEorZp (imm8 : Byte) (s : State) : Host.Outcome State Fault Refusal :=
  .next (aluMemory .eor (eaZeroPage imm8 (s.advance 2 4)))

/-- `EOR #$nn` 0x49 (R264): Immediate, 2 bytes, 3 ticks. -/
def execEorImm (imm8 : Byte) (s : State) : Host.Outcome State Fault Refusal :=
  .next (aluImmediate .eor imm8 (s.advance 2 3))

/-- `EOR $hhll` 0x4D (R264): Absolute, 3 bytes, 5 ticks. -/
def execEorAbs (addr : Addr) (s : State) : Host.Outcome State Fault Refusal :=
  .next (aluMemory .eor (eaAbsolute addr (s.advance 3 5)))

/-- `EOR ($nn),Y` 0x51 (R264): IndirectIndexed, 2 bytes, 7 ticks. -/
def execEorIndY (imm8 : Byte) (s : State) : Host.Outcome State Fault Refusal :=
  .next (aluMemory .eor (eaIndirectIndexed imm8 (s.advance 2 7)))

/-- `EOR $nn,X` 0x55 (R264): ZeroPageX, 2 bytes, 5 ticks. -/
def execEorZpX (imm8 : Byte) (s : State) : Host.Outcome State Fault Refusal :=
  .next (aluMemory .eor (eaZeroPageX imm8 (s.advance 2 5)))

/-- `EOR $hhll,Y` 0x59 (R264): AbsoluteY, 3 bytes, 6 ticks. -/
def execEorAbsY (addr : Addr) (s : State) : Host.Outcome State Fault Refusal :=
  .next (aluMemory .eor (eaAbsoluteY addr (s.advance 3 6)))

/-- `EOR $hhll,X` 0x5D (R264): AbsoluteX, 3 bytes, 6 ticks. -/
def execEorAbsX (addr : Addr) (s : State) : Host.Outcome State Fault Refusal :=
  .next (aluMemory .eor (eaAbsoluteX addr (s.advance 3 6)))

/-! ### CMP (R265): setNZ(A - M); C <- (A >= M) -/

/-- `CMP ($nn,X)` 0xC1 (R265): IndexedIndirect, 2 bytes, 7 ticks. -/
def execCmpIndX (imm8 : Byte) (s : State) : Host.Outcome State Fault Refusal :=
  .next (compareMemory .a (eaIndexedIndirect imm8 (s.advance 2 7)))

/-- `CMP $nn` 0xC5 (R265): ZeroPage, 2 bytes, 4 ticks. -/
def execCmpZp (imm8 : Byte) (s : State) : Host.Outcome State Fault Refusal :=
  .next (compareMemory .a (eaZeroPage imm8 (s.advance 2 4)))

/-- `CMP #$nn` 0xC9 (R265): Immediate, 2 bytes, 3 ticks. -/
def execCmpImm (imm8 : Byte) (s : State) : Host.Outcome State Fault Refusal :=
  .next (compareImmediate .a imm8 (s.advance 2 3))

/-- `CMP $hhll` 0xCD (R265): Absolute, 3 bytes, 5 ticks. -/
def execCmpAbs (addr : Addr) (s : State) : Host.Outcome State Fault Refusal :=
  .next (compareMemory .a (eaAbsolute addr (s.advance 3 5)))

/-- `CMP ($nn),Y` 0xD1 (R265): IndirectIndexed, 2 bytes, 7 ticks. -/
def execCmpIndY (imm8 : Byte) (s : State) : Host.Outcome State Fault Refusal :=
  .next (compareMemory .a (eaIndirectIndexed imm8 (s.advance 2 7)))

/-- `CMP $nn,X` 0xD5 (R265): ZeroPageX, 2 bytes, 5 ticks. -/
def execCmpZpX (imm8 : Byte) (s : State) : Host.Outcome State Fault Refusal :=
  .next (compareMemory .a (eaZeroPageX imm8 (s.advance 2 5)))

/-- `CMP $hhll,Y` 0xD9 (R265): AbsoluteY, 3 bytes, 6 ticks. -/
def execCmpAbsY (addr : Addr) (s : State) : Host.Outcome State Fault Refusal :=
  .next (compareMemory .a (eaAbsoluteY addr (s.advance 3 6)))

/-- `CMP $hhll,X` 0xDD (R265): AbsoluteX, 3 bytes, 6 ticks. -/
def execCmpAbsX (addr : Addr) (s : State) : Host.Outcome State Fault Refusal :=
  .next (compareMemory .a (eaAbsoluteX addr (s.advance 3 6)))

/-! ### CPX (R266): setNZ(X - M); C <- (X >= M) -/

/-- `CPX #$nn` 0xE0 (R266): Immediate, 2 bytes, 3 ticks. -/
def execCpxImm (imm8 : Byte) (s : State) : Host.Outcome State Fault Refusal :=
  .next (compareImmediate .x imm8 (s.advance 2 3))

/-- `CPX $nn` 0xE4 (R266): ZeroPage, 2 bytes, 4 ticks. -/
def execCpxZp (imm8 : Byte) (s : State) : Host.Outcome State Fault Refusal :=
  .next (compareMemory .x (eaZeroPage imm8 (s.advance 2 4)))

/-- `CPX $hhll` 0xEC (R266): Absolute, 3 bytes, 5 ticks. -/
def execCpxAbs (addr : Addr) (s : State) : Host.Outcome State Fault Refusal :=
  .next (compareMemory .x (eaAbsolute addr (s.advance 3 5)))

/-! ### CPY (R267): setNZ(Y - M); C <- (Y >= M) -/

/-- `CPY #$nn` 0xC0 (R267): Immediate, 2 bytes, 3 ticks. -/
def execCpyImm (imm8 : Byte) (s : State) : Host.Outcome State Fault Refusal :=
  .next (compareImmediate .y imm8 (s.advance 2 3))

/-- `CPY $nn` 0xC4 (R267): ZeroPage, 2 bytes, 4 ticks. -/
def execCpyZp (imm8 : Byte) (s : State) : Host.Outcome State Fault Refusal :=
  .next (compareMemory .y (eaZeroPage imm8 (s.advance 2 4)))

/-- `CPY $hhll` 0xCC (R267): Absolute, 3 bytes, 5 ticks. -/
def execCpyAbs (addr : Addr) (s : State) : Host.Outcome State Fault Refusal :=
  .next (compareMemory .y (eaAbsolute addr (s.advance 3 5)))

/-! ### BIT (R268): N <- M[7]; V <- M[6]; Z <- ((A & M) == 0) -/

/-- `BIT $nn` 0x24 (R268): ZeroPage, 2 bytes, 4 ticks. -/
def execBitZp (imm8 : Byte) (s : State) : Host.Outcome State Fault Refusal :=
  .next (bitTestMemory (eaZeroPage imm8 (s.advance 2 4)))

/-- `BIT $hhll` 0x2C (R268): Absolute, 3 bytes, 5 ticks. -/
def execBitAbs (addr : Addr) (s : State) : Host.Outcome State Fault Refusal :=
  .next (bitTestMemory (eaAbsolute addr (s.advance 3 5)))

end Sys2Proof.Machine
end

