-- ==== Sys2Proof/Machine/Control.lean ====
section
/-! DEFINITION. Jumps, branches, halt, no-op and flag instructions (spec 45_control_flags): one meaning per opcode, the
net effect its rule gives. `advance` moves past the instruction's bytes and counts its ticks. None of them faults (R340). -/

namespace Sys2Proof.Machine

/-! ### JMP (R320): PC <- EA -/

/-- `JMP $hhll` 0x4C (R320): Absolute, 3 bytes, 4 ticks. -/
def execJmpAbs (addr : Addr) (s : State) : Host.Outcome State Fault Refusal :=
  .next (jumpToAddress (eaAbsolute addr (s.advance 3 4)))

/-- `JMP ($hhll)` 0x6C (R320): Indirect, 3 bytes, 6 ticks. -/
def execJmpInd (addr : Addr) (s : State) : Host.Outcome State Fault Refusal :=
  .next (jumpToAddress (eaIndirect addr (s.advance 3 6)))

/-! ### BPL (R321): if N = 0 then PC <- PC + sext_16(rr) -/

/-- `BPL label (rr)` 0x10 (R321): Relative, 2 bytes, 3 ticks. -/
def execBpl (rr : Byte) (s : State) : Host.Outcome State Fault Refusal :=
  .next (branch .n false rr (s.advance 2 3))

/-! ### BMI (R322): if N = 1 then PC <- PC + sext_16(rr) -/

/-- `BMI label (rr)` 0x30 (R322): Relative, 2 bytes, 3 ticks. -/
def execBmi (rr : Byte) (s : State) : Host.Outcome State Fault Refusal :=
  .next (branch .n true rr (s.advance 2 3))

/-! ### BVC (R323): if V = 0 then PC <- PC + sext_16(rr) -/

/-- `BVC label (rr)` 0x50 (R323): Relative, 2 bytes, 3 ticks. -/
def execBvc (rr : Byte) (s : State) : Host.Outcome State Fault Refusal :=
  .next (branch .v false rr (s.advance 2 3))

/-! ### BVS (R324): if V = 1 then PC <- PC + sext_16(rr) -/

/-- `BVS label (rr)` 0x70 (R324): Relative, 2 bytes, 3 ticks. -/
def execBvs (rr : Byte) (s : State) : Host.Outcome State Fault Refusal :=
  .next (branch .v true rr (s.advance 2 3))

/-! ### BCC (R325): if C = 0 then PC <- PC + sext_16(rr) -/

/-- `BCC label (rr)` 0x90 (R325): Relative, 2 bytes, 3 ticks. -/
def execBcc (rr : Byte) (s : State) : Host.Outcome State Fault Refusal :=
  .next (branch .c false rr (s.advance 2 3))

/-! ### BCS (R326): if C = 1 then PC <- PC + sext_16(rr) -/

/-- `BCS label (rr)` 0xB0 (R326): Relative, 2 bytes, 3 ticks. -/
def execBcs (rr : Byte) (s : State) : Host.Outcome State Fault Refusal :=
  .next (branch .c true rr (s.advance 2 3))

/-! ### BNE (R327): if Z = 0 then PC <- PC + sext_16(rr) -/

/-- `BNE label (rr)` 0xD0 (R327): Relative, 2 bytes, 3 ticks. -/
def execBne (rr : Byte) (s : State) : Host.Outcome State Fault Refusal :=
  .next (branch .z false rr (s.advance 2 3))

/-! ### BEQ (R328): if Z = 1 then PC <- PC + sext_16(rr) -/

/-- `BEQ label (rr)` 0xF0 (R328): Relative, 2 bytes, 3 ticks. -/
def execBeq (rr : Byte) (s : State) : Host.Outcome State Fault Refusal :=
  .next (branch .z true rr (s.advance 2 3))

/-! ### BRK (R329): halted <- 1 -/

/-- `BRK` 0x00 (R329): Implied, 1 byte, 2 ticks. -/
def execBrk (s : State) : Host.Outcome State Fault Refusal :=
  .next (halt (s.advance 1 2))

/-! ### NOP (R330): nothing -/

/-- `NOP` 0xEA (R330): Implied, 1 byte, 2 ticks. -/
def execNop (s : State) : Host.Outcome State Fault Refusal :=
  .next (s.advance 1 2)

/-! ### CLC (R331): C <- 0 -/

/-- `CLC` 0x18 (R331): Implied, 1 byte, 2 ticks. -/
def execClc (s : State) : Host.Outcome State Fault Refusal :=
  .next (setFlag .c false (s.advance 1 2))

/-! ### SEC (R332): C <- 1 -/

/-- `SEC` 0x38 (R332): Implied, 1 byte, 2 ticks. -/
def execSec (s : State) : Host.Outcome State Fault Refusal :=
  .next (setFlag .c true (s.advance 1 2))

/-! ### CLI (R333): I <- 0 -/

/-- `CLI` 0x58 (R333): Implied, 1 byte, 2 ticks. -/
def execCli (s : State) : Host.Outcome State Fault Refusal :=
  .next (setFlag .i false (s.advance 1 2))

/-! ### SEI (R334): I <- 1 -/

/-- `SEI` 0x78 (R334): Implied, 1 byte, 2 ticks. -/
def execSei (s : State) : Host.Outcome State Fault Refusal :=
  .next (setFlag .i true (s.advance 1 2))

/-! ### CLV (R335): V <- 0 -/

/-- `CLV` 0xB8 (R335): Implied, 1 byte, 2 ticks. -/
def execClv (s : State) : Host.Outcome State Fault Refusal :=
  .next (setFlag .v false (s.advance 1 2))

/-! ### CLD (R336): D <- 0 -/

/-- `CLD` 0xD8 (R336): Implied, 1 byte, 2 ticks. -/
def execCld (s : State) : Host.Outcome State Fault Refusal :=
  .next (setFlag .d false (s.advance 1 2))

/-! ### SED (R337): D <- 1 -/

/-- `SED` 0xF8 (R337): Implied, 1 byte, 2 ticks. -/
def execSed (s : State) : Host.Outcome State Fault Refusal :=
  .next (setFlag .d true (s.advance 1 2))

end Sys2Proof.Machine
end

