-- ==== Sys2Proof/Machine/LoadStore.lean ====
section
/-! DEFINITION. Loads, stores and register transfers (spec 42_load_store_transfer): one meaning per opcode, the
net effect its rule gives. `advance` moves past the instruction's bytes and counts its ticks. None of them faults (R240). -/

namespace Sys2Proof.Machine

/-! ### LDA (R230): A <- M; setNZ(A) -/

/-- `LDA ($nn,X)` 0xA1 (R230): IndexedIndirect, 2 bytes, 7 ticks. -/
def execLdaIndX (imm8 : Byte) (s : State) : Host.Outcome State Fault Refusal :=
  .next (loadMemory .a (eaIndexedIndirect imm8 (s.advance 2 7)))

/-- `LDA $nn` 0xA5 (R230): ZeroPage, 2 bytes, 4 ticks. -/
def execLdaZp (imm8 : Byte) (s : State) : Host.Outcome State Fault Refusal :=
  .next (loadMemory .a (eaZeroPage imm8 (s.advance 2 4)))

/-- `LDA #$nn` 0xA9 (R230): Immediate, 2 bytes, 3 ticks. -/
def execLdaImm (imm8 : Byte) (s : State) : Host.Outcome State Fault Refusal :=
  .next (loadImmediate .a imm8 (s.advance 2 3))

/-- `LDA $hhll` 0xAD (R230): Absolute, 3 bytes, 5 ticks. -/
def execLdaAbs (addr : Addr) (s : State) : Host.Outcome State Fault Refusal :=
  .next (loadMemory .a (eaAbsolute addr (s.advance 3 5)))

/-- `LDA ($nn),Y` 0xB1 (R230): IndirectIndexed, 2 bytes, 7 ticks. -/
def execLdaIndY (imm8 : Byte) (s : State) : Host.Outcome State Fault Refusal :=
  .next (loadMemory .a (eaIndirectIndexed imm8 (s.advance 2 7)))

/-- `LDA $nn,X` 0xB5 (R230): ZeroPageX, 2 bytes, 5 ticks. -/
def execLdaZpX (imm8 : Byte) (s : State) : Host.Outcome State Fault Refusal :=
  .next (loadMemory .a (eaZeroPageX imm8 (s.advance 2 5)))

/-- `LDA $hhll,Y` 0xB9 (R230): AbsoluteY, 3 bytes, 6 ticks. -/
def execLdaAbsY (addr : Addr) (s : State) : Host.Outcome State Fault Refusal :=
  .next (loadMemory .a (eaAbsoluteY addr (s.advance 3 6)))

/-- `LDA $hhll,X` 0xBD (R230): AbsoluteX, 3 bytes, 6 ticks. -/
def execLdaAbsX (addr : Addr) (s : State) : Host.Outcome State Fault Refusal :=
  .next (loadMemory .a (eaAbsoluteX addr (s.advance 3 6)))

/-! ### LDX (R231): X <- M; setNZ(X) -/

/-- `LDX #$nn` 0xA2 (R231): Immediate, 2 bytes, 3 ticks. -/
def execLdxImm (imm8 : Byte) (s : State) : Host.Outcome State Fault Refusal :=
  .next (loadImmediate .x imm8 (s.advance 2 3))

/-- `LDX $nn` 0xA6 (R231): ZeroPage, 2 bytes, 4 ticks. -/
def execLdxZp (imm8 : Byte) (s : State) : Host.Outcome State Fault Refusal :=
  .next (loadMemory .x (eaZeroPage imm8 (s.advance 2 4)))

/-- `LDX $hhll` 0xAE (R231): Absolute, 3 bytes, 5 ticks. -/
def execLdxAbs (addr : Addr) (s : State) : Host.Outcome State Fault Refusal :=
  .next (loadMemory .x (eaAbsolute addr (s.advance 3 5)))

/-- `LDX $nn,Y` 0xB6 (R231): ZeroPageY, 2 bytes, 5 ticks. -/
def execLdxZpY (imm8 : Byte) (s : State) : Host.Outcome State Fault Refusal :=
  .next (loadMemory .x (eaZeroPageY imm8 (s.advance 2 5)))

/-- `LDX $hhll,Y` 0xBE (R231): AbsoluteY, 3 bytes, 6 ticks. -/
def execLdxAbsY (addr : Addr) (s : State) : Host.Outcome State Fault Refusal :=
  .next (loadMemory .x (eaAbsoluteY addr (s.advance 3 6)))

/-! ### LDY (R232): Y <- M; setNZ(Y) -/

/-- `LDY #$nn` 0xA0 (R232): Immediate, 2 bytes, 3 ticks. -/
def execLdyImm (imm8 : Byte) (s : State) : Host.Outcome State Fault Refusal :=
  .next (loadImmediate .y imm8 (s.advance 2 3))

/-- `LDY $nn` 0xA4 (R232): ZeroPage, 2 bytes, 4 ticks. -/
def execLdyZp (imm8 : Byte) (s : State) : Host.Outcome State Fault Refusal :=
  .next (loadMemory .y (eaZeroPage imm8 (s.advance 2 4)))

/-- `LDY $hhll` 0xAC (R232): Absolute, 3 bytes, 5 ticks. -/
def execLdyAbs (addr : Addr) (s : State) : Host.Outcome State Fault Refusal :=
  .next (loadMemory .y (eaAbsolute addr (s.advance 3 5)))

/-- `LDY $nn,X` 0xB4 (R232): ZeroPageX, 2 bytes, 5 ticks. -/
def execLdyZpX (imm8 : Byte) (s : State) : Host.Outcome State Fault Refusal :=
  .next (loadMemory .y (eaZeroPageX imm8 (s.advance 2 5)))

/-- `LDY $hhll,X` 0xBC (R232): AbsoluteX, 3 bytes, 6 ticks. -/
def execLdyAbsX (addr : Addr) (s : State) : Host.Outcome State Fault Refusal :=
  .next (loadMemory .y (eaAbsoluteX addr (s.advance 3 6)))

/-! ### STA (R233): MemWrite(EA, 1, A) -/

/-- `STA ($nn,X)` 0x81 (R233): IndexedIndirect, 2 bytes, 6 ticks. -/
def execStaIndX (imm8 : Byte) (s : State) : Host.Outcome State Fault Refusal :=
  .next (storeMemory .a (eaIndexedIndirect imm8 (s.advance 2 6)))

/-- `STA $nn` 0x85 (R233): ZeroPage, 2 bytes, 3 ticks. -/
def execStaZp (imm8 : Byte) (s : State) : Host.Outcome State Fault Refusal :=
  .next (storeMemory .a (eaZeroPage imm8 (s.advance 2 3)))

/-- `STA $hhll` 0x8D (R233): Absolute, 3 bytes, 4 ticks. -/
def execStaAbs (addr : Addr) (s : State) : Host.Outcome State Fault Refusal :=
  .next (storeMemory .a (eaAbsolute addr (s.advance 3 4)))

/-- `STA ($nn),Y` 0x91 (R233): IndirectIndexed, 2 bytes, 6 ticks. -/
def execStaIndY (imm8 : Byte) (s : State) : Host.Outcome State Fault Refusal :=
  .next (storeMemory .a (eaIndirectIndexed imm8 (s.advance 2 6)))

/-- `STA $nn,X` 0x95 (R233): ZeroPageX, 2 bytes, 4 ticks. -/
def execStaZpX (imm8 : Byte) (s : State) : Host.Outcome State Fault Refusal :=
  .next (storeMemory .a (eaZeroPageX imm8 (s.advance 2 4)))

/-- `STA $hhll,Y` 0x99 (R233): AbsoluteY, 3 bytes, 5 ticks. -/
def execStaAbsY (addr : Addr) (s : State) : Host.Outcome State Fault Refusal :=
  .next (storeMemory .a (eaAbsoluteY addr (s.advance 3 5)))

/-- `STA $hhll,X` 0x9D (R233): AbsoluteX, 3 bytes, 5 ticks. -/
def execStaAbsX (addr : Addr) (s : State) : Host.Outcome State Fault Refusal :=
  .next (storeMemory .a (eaAbsoluteX addr (s.advance 3 5)))

/-! ### STX (R234): MemWrite(EA, 1, X) -/

/-- `STX $nn` 0x86 (R234): ZeroPage, 2 bytes, 3 ticks. -/
def execStxZp (imm8 : Byte) (s : State) : Host.Outcome State Fault Refusal :=
  .next (storeMemory .x (eaZeroPage imm8 (s.advance 2 3)))

/-- `STX $hhll` 0x8E (R234): Absolute, 3 bytes, 4 ticks. -/
def execStxAbs (addr : Addr) (s : State) : Host.Outcome State Fault Refusal :=
  .next (storeMemory .x (eaAbsolute addr (s.advance 3 4)))

/-- `STX $nn,Y` 0x96 (R234): ZeroPageY, 2 bytes, 4 ticks. -/
def execStxZpY (imm8 : Byte) (s : State) : Host.Outcome State Fault Refusal :=
  .next (storeMemory .x (eaZeroPageY imm8 (s.advance 2 4)))

/-! ### STY (R235): MemWrite(EA, 1, Y) -/

/-- `STY $nn` 0x84 (R235): ZeroPage, 2 bytes, 3 ticks. -/
def execStyZp (imm8 : Byte) (s : State) : Host.Outcome State Fault Refusal :=
  .next (storeMemory .y (eaZeroPage imm8 (s.advance 2 3)))

/-- `STY $hhll` 0x8C (R235): Absolute, 3 bytes, 4 ticks. -/
def execStyAbs (addr : Addr) (s : State) : Host.Outcome State Fault Refusal :=
  .next (storeMemory .y (eaAbsolute addr (s.advance 3 4)))

/-- `STY $nn,X` 0x94 (R235): ZeroPageX, 2 bytes, 4 ticks. -/
def execStyZpX (imm8 : Byte) (s : State) : Host.Outcome State Fault Refusal :=
  .next (storeMemory .y (eaZeroPageX imm8 (s.advance 2 4)))

/-! ### TAX (R236): X <- A; setNZ(X) -/

/-- `TAX` 0xAA (R236): Implied, 1 byte, 2 ticks. -/
def execTax (s : State) : Host.Outcome State Fault Refusal :=
  .next (storeToRegister .a .x (s.advance 1 2))

/-! ### TAY (R237): Y <- A; setNZ(Y) -/

/-- `TAY` 0xA8 (R237): Implied, 1 byte, 2 ticks. -/
def execTay (s : State) : Host.Outcome State Fault Refusal :=
  .next (storeToRegister .a .y (s.advance 1 2))

/-! ### TXA (R238): A <- X; setNZ(A) -/

/-- `TXA` 0x8A (R238): Implied, 1 byte, 2 ticks. -/
def execTxa (s : State) : Host.Outcome State Fault Refusal :=
  .next (storeToRegister .x .a (s.advance 1 2))

/-! ### TYA (R239): A <- Y; setNZ(A) -/

/-- `TYA` 0x98 (R239): Implied, 1 byte, 2 ticks. -/
def execTya (s : State) : Host.Outcome State Fault Refusal :=
  .next (storeToRegister .y .a (s.advance 1 2))

end Sys2Proof.Machine
end

