-- ==== Sys2Proof/Machine/ShiftIncDec.lean ====
section
/-! DEFINITION. Shifts, rotates, increments and decrements (spec 44_shift_incdec): one meaning per opcode, the
net effect its rule gives. `advance` moves past the instruction's bytes and counts its ticks. None of them faults (R300). -/

namespace Sys2Proof.Machine

/-! ### ASL (R290): C <- v[7]; v <- v[6:0],0; setNZ(v) -/

/-- `ASL $nn` 0x06 (R290): ZeroPage, 2 bytes, 5 ticks, v at EA. -/
def execAslZp (imm8 : Byte) (s : State) : Host.Outcome State Fault Refusal :=
  .next (modifyMemory .shiftLeft (eaZeroPage imm8 (s.advance 2 5)))

/-- `ASL A` 0x0A (R290): Accumulator, 1 byte, 2 ticks, v is A. -/
def execAslAcc (s : State) : Host.Outcome State Fault Refusal :=
  .next (modifyRegister .a .shiftLeft (s.advance 1 2))

/-- `ASL $hhll` 0x0E (R290): Absolute, 3 bytes, 6 ticks, v at EA. -/
def execAslAbs (addr : Addr) (s : State) : Host.Outcome State Fault Refusal :=
  .next (modifyMemory .shiftLeft (eaAbsolute addr (s.advance 3 6)))

/-- `ASL $nn,X` 0x16 (R290): ZeroPageX, 2 bytes, 6 ticks, v at EA. -/
def execAslZpX (imm8 : Byte) (s : State) : Host.Outcome State Fault Refusal :=
  .next (modifyMemory .shiftLeft (eaZeroPageX imm8 (s.advance 2 6)))

/-- `ASL $hhll,X` 0x1E (R290): AbsoluteX, 3 bytes, 7 ticks, v at EA. -/
def execAslAbsX (addr : Addr) (s : State) : Host.Outcome State Fault Refusal :=
  .next (modifyMemory .shiftLeft (eaAbsoluteX addr (s.advance 3 7)))

/-! ### LSR (R291): C <- v[0]; v <- 0,v[7:1]; setNZ(v) -/

/-- `LSR $nn` 0x46 (R291): ZeroPage, 2 bytes, 5 ticks, v at EA. -/
def execLsrZp (imm8 : Byte) (s : State) : Host.Outcome State Fault Refusal :=
  .next (modifyMemory .shiftRight (eaZeroPage imm8 (s.advance 2 5)))

/-- `LSR A` 0x4A (R291): Accumulator, 1 byte, 2 ticks, v is A. -/
def execLsrAcc (s : State) : Host.Outcome State Fault Refusal :=
  .next (modifyRegister .a .shiftRight (s.advance 1 2))

/-- `LSR $hhll` 0x4E (R291): Absolute, 3 bytes, 6 ticks, v at EA. -/
def execLsrAbs (addr : Addr) (s : State) : Host.Outcome State Fault Refusal :=
  .next (modifyMemory .shiftRight (eaAbsolute addr (s.advance 3 6)))

/-- `LSR $nn,X` 0x56 (R291): ZeroPageX, 2 bytes, 6 ticks, v at EA. -/
def execLsrZpX (imm8 : Byte) (s : State) : Host.Outcome State Fault Refusal :=
  .next (modifyMemory .shiftRight (eaZeroPageX imm8 (s.advance 2 6)))

/-- `LSR $hhll,X` 0x5E (R291): AbsoluteX, 3 bytes, 7 ticks, v at EA. -/
def execLsrAbsX (addr : Addr) (s : State) : Host.Outcome State Fault Refusal :=
  .next (modifyMemory .shiftRight (eaAbsoluteX addr (s.advance 3 7)))

/-! ### ROL (R292): c <- C; C <- v[7]; v <- v[6:0],c; setNZ(v) -/

/-- `ROL $nn` 0x26 (R292): ZeroPage, 2 bytes, 5 ticks, v at EA. -/
def execRolZp (imm8 : Byte) (s : State) : Host.Outcome State Fault Refusal :=
  .next (modifyMemory .rotateLeft (eaZeroPage imm8 (s.advance 2 5)))

/-- `ROL A` 0x2A (R292): Accumulator, 1 byte, 2 ticks, v is A. -/
def execRolAcc (s : State) : Host.Outcome State Fault Refusal :=
  .next (modifyRegister .a .rotateLeft (s.advance 1 2))

/-- `ROL $hhll` 0x2E (R292): Absolute, 3 bytes, 6 ticks, v at EA. -/
def execRolAbs (addr : Addr) (s : State) : Host.Outcome State Fault Refusal :=
  .next (modifyMemory .rotateLeft (eaAbsolute addr (s.advance 3 6)))

/-- `ROL $nn,X` 0x36 (R292): ZeroPageX, 2 bytes, 6 ticks, v at EA. -/
def execRolZpX (imm8 : Byte) (s : State) : Host.Outcome State Fault Refusal :=
  .next (modifyMemory .rotateLeft (eaZeroPageX imm8 (s.advance 2 6)))

/-- `ROL $hhll,X` 0x3E (R292): AbsoluteX, 3 bytes, 7 ticks, v at EA. -/
def execRolAbsX (addr : Addr) (s : State) : Host.Outcome State Fault Refusal :=
  .next (modifyMemory .rotateLeft (eaAbsoluteX addr (s.advance 3 7)))

/-! ### ROR (R293): c <- C; C <- v[0]; v <- c,v[7:1]; setNZ(v) -/

/-- `ROR $nn` 0x66 (R293): ZeroPage, 2 bytes, 5 ticks, v at EA. -/
def execRorZp (imm8 : Byte) (s : State) : Host.Outcome State Fault Refusal :=
  .next (modifyMemory .rotateRight (eaZeroPage imm8 (s.advance 2 5)))

/-- `ROR A` 0x6A (R293): Accumulator, 1 byte, 2 ticks, v is A. -/
def execRorAcc (s : State) : Host.Outcome State Fault Refusal :=
  .next (modifyRegister .a .rotateRight (s.advance 1 2))

/-- `ROR $hhll` 0x6E (R293): Absolute, 3 bytes, 6 ticks, v at EA. -/
def execRorAbs (addr : Addr) (s : State) : Host.Outcome State Fault Refusal :=
  .next (modifyMemory .rotateRight (eaAbsolute addr (s.advance 3 6)))

/-- `ROR $nn,X` 0x76 (R293): ZeroPageX, 2 bytes, 6 ticks, v at EA. -/
def execRorZpX (imm8 : Byte) (s : State) : Host.Outcome State Fault Refusal :=
  .next (modifyMemory .rotateRight (eaZeroPageX imm8 (s.advance 2 6)))

/-- `ROR $hhll,X` 0x7E (R293): AbsoluteX, 3 bytes, 7 ticks, v at EA. -/
def execRorAbsX (addr : Addr) (s : State) : Host.Outcome State Fault Refusal :=
  .next (modifyMemory .rotateRight (eaAbsoluteX addr (s.advance 3 7)))

/-! ### INC (R294): v <- M + 1; setNZ(v); MemWrite(EA, 1, v) -/

/-- `INC $nn` 0xE6 (R294): ZeroPage, 2 bytes, 5 ticks. -/
def execIncZp (imm8 : Byte) (s : State) : Host.Outcome State Fault Refusal :=
  .next (modifyMemory .increment (eaZeroPage imm8 (s.advance 2 5)))

/-- `INC $hhll` 0xEE (R294): Absolute, 3 bytes, 6 ticks. -/
def execIncAbs (addr : Addr) (s : State) : Host.Outcome State Fault Refusal :=
  .next (modifyMemory .increment (eaAbsolute addr (s.advance 3 6)))

/-- `INC $nn,X` 0xF6 (R294): ZeroPageX, 2 bytes, 6 ticks. -/
def execIncZpX (imm8 : Byte) (s : State) : Host.Outcome State Fault Refusal :=
  .next (modifyMemory .increment (eaZeroPageX imm8 (s.advance 2 6)))

/-- `INC $hhll,X` 0xFE (R294): AbsoluteX, 3 bytes, 7 ticks. -/
def execIncAbsX (addr : Addr) (s : State) : Host.Outcome State Fault Refusal :=
  .next (modifyMemory .increment (eaAbsoluteX addr (s.advance 3 7)))

/-! ### DEC (R295): v <- M - 1; setNZ(v); MemWrite(EA, 1, v) -/

/-- `DEC $nn` 0xC6 (R295): ZeroPage, 2 bytes, 5 ticks. -/
def execDecZp (imm8 : Byte) (s : State) : Host.Outcome State Fault Refusal :=
  .next (modifyMemory .decrement (eaZeroPage imm8 (s.advance 2 5)))

/-- `DEC $hhll` 0xCE (R295): Absolute, 3 bytes, 6 ticks. -/
def execDecAbs (addr : Addr) (s : State) : Host.Outcome State Fault Refusal :=
  .next (modifyMemory .decrement (eaAbsolute addr (s.advance 3 6)))

/-- `DEC $nn,X` 0xD6 (R295): ZeroPageX, 2 bytes, 6 ticks. -/
def execDecZpX (imm8 : Byte) (s : State) : Host.Outcome State Fault Refusal :=
  .next (modifyMemory .decrement (eaZeroPageX imm8 (s.advance 2 6)))

/-- `DEC $hhll,X` 0xDE (R295): AbsoluteX, 3 bytes, 7 ticks. -/
def execDecAbsX (addr : Addr) (s : State) : Host.Outcome State Fault Refusal :=
  .next (modifyMemory .decrement (eaAbsoluteX addr (s.advance 3 7)))

/-! ### INX (R296): X <- X + 1; setNZ(X) -/

/-- `INX` 0xE8 (R296): Implied, 1 byte, 2 ticks. -/
def execInx (s : State) : Host.Outcome State Fault Refusal :=
  .next (modifyRegister .x .increment (s.advance 1 2))

/-! ### INY (R297): Y <- Y + 1; setNZ(Y) -/

/-- `INY` 0xC8 (R297): Implied, 1 byte, 2 ticks. -/
def execIny (s : State) : Host.Outcome State Fault Refusal :=
  .next (modifyRegister .y .increment (s.advance 1 2))

/-! ### DEX (R298): X <- X - 1; setNZ(X) -/

/-- `DEX` 0xCA (R298): Implied, 1 byte, 2 ticks. -/
def execDex (s : State) : Host.Outcome State Fault Refusal :=
  .next (modifyRegister .x .decrement (s.advance 1 2))

/-! ### DEY (R299): Y <- Y - 1; setNZ(Y) -/

/-- `DEY` 0x88 (R299): Implied, 1 byte, 2 ticks. -/
def execDey (s : State) : Host.Outcome State Fault Refusal :=
  .next (modifyRegister .y .decrement (s.advance 1 2))

end Sys2Proof.Machine
end

