-- ==== Sys2Proof/Machine/Dispatch.lean ====
section
/-! DEFINITION. The meaning of each instruction, one arm per constructor of Instr, in the opcode table's order. -/

namespace Sys2Proof.Machine

/-- One whole instruction, its bytes already read: PC stands at its opcode before and past it after. -/
def exec (i : Instr) (s : State) : Host.Outcome State Fault Refusal :=
  match i with
  | .brk => Sys2Proof.Machine.execBrk s
  | .oraIndX imm8 => Sys2Proof.Machine.execOraIndX imm8 s
  | .oraZp imm8 => Sys2Proof.Machine.execOraZp imm8 s
  | .aslZp imm8 => Sys2Proof.Machine.execAslZp imm8 s
  | .oraImm imm8 => Sys2Proof.Machine.execOraImm imm8 s
  | .aslAcc => Sys2Proof.Machine.execAslAcc s
  | .oraAbs addr => Sys2Proof.Machine.execOraAbs addr s
  | .aslAbs addr => Sys2Proof.Machine.execAslAbs addr s
  | .bpl rr => Sys2Proof.Machine.execBpl rr s
  | .oraIndY imm8 => Sys2Proof.Machine.execOraIndY imm8 s
  | .oraZpX imm8 => Sys2Proof.Machine.execOraZpX imm8 s
  | .aslZpX imm8 => Sys2Proof.Machine.execAslZpX imm8 s
  | .clc => Sys2Proof.Machine.execClc s
  | .oraAbsY addr => Sys2Proof.Machine.execOraAbsY addr s
  | .oraAbsX addr => Sys2Proof.Machine.execOraAbsX addr s
  | .aslAbsX addr => Sys2Proof.Machine.execAslAbsX addr s
  | .andIndX imm8 => Sys2Proof.Machine.execAndIndX imm8 s
  | .bitZp imm8 => Sys2Proof.Machine.execBitZp imm8 s
  | .andZp imm8 => Sys2Proof.Machine.execAndZp imm8 s
  | .rolZp imm8 => Sys2Proof.Machine.execRolZp imm8 s
  | .andImm imm8 => Sys2Proof.Machine.execAndImm imm8 s
  | .rolAcc => Sys2Proof.Machine.execRolAcc s
  | .bitAbs addr => Sys2Proof.Machine.execBitAbs addr s
  | .andAbs addr => Sys2Proof.Machine.execAndAbs addr s
  | .rolAbs addr => Sys2Proof.Machine.execRolAbs addr s
  | .bmi rr => Sys2Proof.Machine.execBmi rr s
  | .andIndY imm8 => Sys2Proof.Machine.execAndIndY imm8 s
  | .andZpX imm8 => Sys2Proof.Machine.execAndZpX imm8 s
  | .rolZpX imm8 => Sys2Proof.Machine.execRolZpX imm8 s
  | .sec => Sys2Proof.Machine.execSec s
  | .andAbsY addr => Sys2Proof.Machine.execAndAbsY addr s
  | .andAbsX addr => Sys2Proof.Machine.execAndAbsX addr s
  | .rolAbsX addr => Sys2Proof.Machine.execRolAbsX addr s
  | .eorIndX imm8 => Sys2Proof.Machine.execEorIndX imm8 s
  | .eorZp imm8 => Sys2Proof.Machine.execEorZp imm8 s
  | .lsrZp imm8 => Sys2Proof.Machine.execLsrZp imm8 s
  | .eorImm imm8 => Sys2Proof.Machine.execEorImm imm8 s
  | .lsrAcc => Sys2Proof.Machine.execLsrAcc s
  | .jmpAbs addr => Sys2Proof.Machine.execJmpAbs addr s
  | .eorAbs addr => Sys2Proof.Machine.execEorAbs addr s
  | .lsrAbs addr => Sys2Proof.Machine.execLsrAbs addr s
  | .bvc rr => Sys2Proof.Machine.execBvc rr s
  | .eorIndY imm8 => Sys2Proof.Machine.execEorIndY imm8 s
  | .eorZpX imm8 => Sys2Proof.Machine.execEorZpX imm8 s
  | .lsrZpX imm8 => Sys2Proof.Machine.execLsrZpX imm8 s
  | .cli => Sys2Proof.Machine.execCli s
  | .eorAbsY addr => Sys2Proof.Machine.execEorAbsY addr s
  | .eorAbsX addr => Sys2Proof.Machine.execEorAbsX addr s
  | .lsrAbsX addr => Sys2Proof.Machine.execLsrAbsX addr s
  | .adcIndX imm8 => Sys2Proof.Machine.execAdcIndX imm8 s
  | .adcZp imm8 => Sys2Proof.Machine.execAdcZp imm8 s
  | .rorZp imm8 => Sys2Proof.Machine.execRorZp imm8 s
  | .adcImm imm8 => Sys2Proof.Machine.execAdcImm imm8 s
  | .rorAcc => Sys2Proof.Machine.execRorAcc s
  | .jmpInd addr => Sys2Proof.Machine.execJmpInd addr s
  | .adcAbs addr => Sys2Proof.Machine.execAdcAbs addr s
  | .rorAbs addr => Sys2Proof.Machine.execRorAbs addr s
  | .bvs rr => Sys2Proof.Machine.execBvs rr s
  | .adcIndY imm8 => Sys2Proof.Machine.execAdcIndY imm8 s
  | .adcZpX imm8 => Sys2Proof.Machine.execAdcZpX imm8 s
  | .rorZpX imm8 => Sys2Proof.Machine.execRorZpX imm8 s
  | .sei => Sys2Proof.Machine.execSei s
  | .adcAbsY addr => Sys2Proof.Machine.execAdcAbsY addr s
  | .adcAbsX addr => Sys2Proof.Machine.execAdcAbsX addr s
  | .rorAbsX addr => Sys2Proof.Machine.execRorAbsX addr s
  | .staIndX imm8 => Sys2Proof.Machine.execStaIndX imm8 s
  | .styZp imm8 => Sys2Proof.Machine.execStyZp imm8 s
  | .staZp imm8 => Sys2Proof.Machine.execStaZp imm8 s
  | .stxZp imm8 => Sys2Proof.Machine.execStxZp imm8 s
  | .dey => Sys2Proof.Machine.execDey s
  | .txa => Sys2Proof.Machine.execTxa s
  | .styAbs addr => Sys2Proof.Machine.execStyAbs addr s
  | .staAbs addr => Sys2Proof.Machine.execStaAbs addr s
  | .stxAbs addr => Sys2Proof.Machine.execStxAbs addr s
  | .bcc rr => Sys2Proof.Machine.execBcc rr s
  | .staIndY imm8 => Sys2Proof.Machine.execStaIndY imm8 s
  | .styZpX imm8 => Sys2Proof.Machine.execStyZpX imm8 s
  | .staZpX imm8 => Sys2Proof.Machine.execStaZpX imm8 s
  | .stxZpY imm8 => Sys2Proof.Machine.execStxZpY imm8 s
  | .tya => Sys2Proof.Machine.execTya s
  | .staAbsY addr => Sys2Proof.Machine.execStaAbsY addr s
  | .staAbsX addr => Sys2Proof.Machine.execStaAbsX addr s
  | .ldyImm imm8 => Sys2Proof.Machine.execLdyImm imm8 s
  | .ldaIndX imm8 => Sys2Proof.Machine.execLdaIndX imm8 s
  | .ldxImm imm8 => Sys2Proof.Machine.execLdxImm imm8 s
  | .ldyZp imm8 => Sys2Proof.Machine.execLdyZp imm8 s
  | .ldaZp imm8 => Sys2Proof.Machine.execLdaZp imm8 s
  | .ldxZp imm8 => Sys2Proof.Machine.execLdxZp imm8 s
  | .tay => Sys2Proof.Machine.execTay s
  | .ldaImm imm8 => Sys2Proof.Machine.execLdaImm imm8 s
  | .tax => Sys2Proof.Machine.execTax s
  | .ldyAbs addr => Sys2Proof.Machine.execLdyAbs addr s
  | .ldaAbs addr => Sys2Proof.Machine.execLdaAbs addr s
  | .ldxAbs addr => Sys2Proof.Machine.execLdxAbs addr s
  | .bcs rr => Sys2Proof.Machine.execBcs rr s
  | .ldaIndY imm8 => Sys2Proof.Machine.execLdaIndY imm8 s
  | .ldyZpX imm8 => Sys2Proof.Machine.execLdyZpX imm8 s
  | .ldaZpX imm8 => Sys2Proof.Machine.execLdaZpX imm8 s
  | .ldxZpY imm8 => Sys2Proof.Machine.execLdxZpY imm8 s
  | .clv => Sys2Proof.Machine.execClv s
  | .ldaAbsY addr => Sys2Proof.Machine.execLdaAbsY addr s
  | .ldyAbsX addr => Sys2Proof.Machine.execLdyAbsX addr s
  | .ldaAbsX addr => Sys2Proof.Machine.execLdaAbsX addr s
  | .ldxAbsY addr => Sys2Proof.Machine.execLdxAbsY addr s
  | .cpyImm imm8 => Sys2Proof.Machine.execCpyImm imm8 s
  | .cmpIndX imm8 => Sys2Proof.Machine.execCmpIndX imm8 s
  | .cpyZp imm8 => Sys2Proof.Machine.execCpyZp imm8 s
  | .cmpZp imm8 => Sys2Proof.Machine.execCmpZp imm8 s
  | .decZp imm8 => Sys2Proof.Machine.execDecZp imm8 s
  | .iny => Sys2Proof.Machine.execIny s
  | .cmpImm imm8 => Sys2Proof.Machine.execCmpImm imm8 s
  | .dex => Sys2Proof.Machine.execDex s
  | .cpyAbs addr => Sys2Proof.Machine.execCpyAbs addr s
  | .cmpAbs addr => Sys2Proof.Machine.execCmpAbs addr s
  | .decAbs addr => Sys2Proof.Machine.execDecAbs addr s
  | .bne rr => Sys2Proof.Machine.execBne rr s
  | .cmpIndY imm8 => Sys2Proof.Machine.execCmpIndY imm8 s
  | .cmpZpX imm8 => Sys2Proof.Machine.execCmpZpX imm8 s
  | .decZpX imm8 => Sys2Proof.Machine.execDecZpX imm8 s
  | .cld => Sys2Proof.Machine.execCld s
  | .cmpAbsY addr => Sys2Proof.Machine.execCmpAbsY addr s
  | .cmpAbsX addr => Sys2Proof.Machine.execCmpAbsX addr s
  | .decAbsX addr => Sys2Proof.Machine.execDecAbsX addr s
  | .cpxImm imm8 => Sys2Proof.Machine.execCpxImm imm8 s
  | .sbcIndX imm8 => Sys2Proof.Machine.execSbcIndX imm8 s
  | .cpxZp imm8 => Sys2Proof.Machine.execCpxZp imm8 s
  | .sbcZp imm8 => Sys2Proof.Machine.execSbcZp imm8 s
  | .incZp imm8 => Sys2Proof.Machine.execIncZp imm8 s
  | .inx => Sys2Proof.Machine.execInx s
  | .sbcImm imm8 => Sys2Proof.Machine.execSbcImm imm8 s
  | .nop => Sys2Proof.Machine.execNop s
  | .cpxAbs addr => Sys2Proof.Machine.execCpxAbs addr s
  | .sbcAbs addr => Sys2Proof.Machine.execSbcAbs addr s
  | .incAbs addr => Sys2Proof.Machine.execIncAbs addr s
  | .beq rr => Sys2Proof.Machine.execBeq rr s
  | .sbcIndY imm8 => Sys2Proof.Machine.execSbcIndY imm8 s
  | .sbcZpX imm8 => Sys2Proof.Machine.execSbcZpX imm8 s
  | .incZpX imm8 => Sys2Proof.Machine.execIncZpX imm8 s
  | .sed => Sys2Proof.Machine.execSed s
  | .sbcAbsY addr => Sys2Proof.Machine.execSbcAbsY addr s
  | .sbcAbsX addr => Sys2Proof.Machine.execSbcAbsX addr s
  | .incAbsX addr => Sys2Proof.Machine.execIncAbsX addr s

end Sys2Proof.Machine
end

