-- ==== Sys2Proof/Machine/Table.lean ====
section
/-! DEFINITION. The Instruction Table (spec 30_encoding R104–R108): each populated opcode's mnemonic, mode and expansion,
the expansion being the mode's fetch micro-ops followed by the class's suffix (R105, R123), and the checks a table must
pass when it is built (R106). -/

namespace Sys2Proof.Machine

/-- An entry of the table: "immutable record {mnemonic, addressing mode, ordered micro-op list}" (R104). -/
structure Entry where
  mnemonic : String
  mode : Mode
  expansion : List MicroOp
deriving DecidableEq, Repr

/-- A populated opcode. -/
structure TableRow where
  opcode : Byte
  entry : Entry
deriving DecidableEq, Repr

/-- A row from its mode and its class's suffix (R105). -/
def row (opcode : Byte) (mnemonic : String) (mode : Mode) (suffix : List MicroOp) : TableRow :=
  { opcode := opcode, entry := { mnemonic := mnemonic, mode := mode, expansion := mode.fetchOps ++ suffix } }

/-! ## Semantic suffixes (R123) -/

/-- load, memory modes -/
def loadOps (r : Reg8) : List MicroOp := [.readOperand, .storeToRegister .internalOperand r]

/-- load, Immediate -/
def loadImmediateOps (r : Reg8) : List MicroOp := [.storeToRegister .internalOperand r]

/-- store -/
def storeOps (r : Reg8) : List MicroOp := [.writeToAddress r .internalAddress]

/-- ALU, memory modes -/
def aluOps (f : AluFunc) : List MicroOp := [.readOperand, .computeAndStore .a .a f]

/-- ALU, Immediate -/
def aluImmediateOps (f : AluFunc) : List MicroOp := [.computeAndStore .a .a f]

/-- compare, memory modes -/
def compareOps (r : Reg8) : List MicroOp := [.readOperand, .compareToRegister .internalOperand r]

/-- compare, Immediate -/
def compareImmediateOps (r : Reg8) : List MicroOp := [.compareToRegister .internalOperand r]

/-- bit test -/
def bitTestOps : List MicroOp := [.readOperand, .bitTest .a]

/-- read-modify-write, memory -/
def modifyMemoryOps (g : ModifyFunc) : List MicroOp :=
  [.readOperand, .modifyRegister .internalOperand g, .writeToAddress .internalOperand .internalAddress]

/-! ## The rows (R125), sixteen opcodes a definition -/

/-- Row 0x of the opcode map. -/
def tableRows0 : List TableRow := [
  row 0x00 "BRK" .implied [.brk],
  row 0x01 "ORA" .indexedIndirect (aluOps .or),
  row 0x05 "ORA" .zeroPage (aluOps .or),
  row 0x06 "ASL" .zeroPage (modifyMemoryOps .shiftLeft),
  row 0x09 "ORA" .immediate (aluImmediateOps .or),
  row 0x0A "ASL" .accumulator [.modifyRegister .a .shiftLeft],
  row 0x0D "ORA" .absolute (aluOps .or),
  row 0x0E "ASL" .absolute (modifyMemoryOps .shiftLeft)]

/-- Row 1x of the opcode map. -/
def tableRows1 : List TableRow := [
  row 0x10 "BPL" (.relative { flag := .n, value := false }) [],
  row 0x11 "ORA" .indirectIndexed (aluOps .or),
  row 0x15 "ORA" .zeroPageX (aluOps .or),
  row 0x16 "ASL" .zeroPageX (modifyMemoryOps .shiftLeft),
  row 0x18 "CLC" .implied [.setFlag .c false],
  row 0x19 "ORA" .absoluteY (aluOps .or),
  row 0x1D "ORA" .absoluteX (aluOps .or),
  row 0x1E "ASL" .absoluteX (modifyMemoryOps .shiftLeft)]

/-- Row 2x of the opcode map. -/
def tableRows2 : List TableRow := [
  row 0x21 "AND" .indexedIndirect (aluOps .and),
  row 0x24 "BIT" .zeroPage bitTestOps,
  row 0x25 "AND" .zeroPage (aluOps .and),
  row 0x26 "ROL" .zeroPage (modifyMemoryOps .rotateLeft),
  row 0x29 "AND" .immediate (aluImmediateOps .and),
  row 0x2A "ROL" .accumulator [.modifyRegister .a .rotateLeft],
  row 0x2C "BIT" .absolute bitTestOps,
  row 0x2D "AND" .absolute (aluOps .and),
  row 0x2E "ROL" .absolute (modifyMemoryOps .rotateLeft)]

/-- Row 3x of the opcode map. -/
def tableRows3 : List TableRow := [
  row 0x30 "BMI" (.relative { flag := .n, value := true }) [],
  row 0x31 "AND" .indirectIndexed (aluOps .and),
  row 0x35 "AND" .zeroPageX (aluOps .and),
  row 0x36 "ROL" .zeroPageX (modifyMemoryOps .rotateLeft),
  row 0x38 "SEC" .implied [.setFlag .c true],
  row 0x39 "AND" .absoluteY (aluOps .and),
  row 0x3D "AND" .absoluteX (aluOps .and),
  row 0x3E "ROL" .absoluteX (modifyMemoryOps .rotateLeft)]

/-- Row 4x of the opcode map. -/
def tableRows4 : List TableRow := [
  row 0x41 "EOR" .indexedIndirect (aluOps .eor),
  row 0x45 "EOR" .zeroPage (aluOps .eor),
  row 0x46 "LSR" .zeroPage (modifyMemoryOps .shiftRight),
  row 0x49 "EOR" .immediate (aluImmediateOps .eor),
  row 0x4A "LSR" .accumulator [.modifyRegister .a .shiftRight],
  row 0x4C "JMP" .absolute [.jumpToAddress],
  row 0x4D "EOR" .absolute (aluOps .eor),
  row 0x4E "LSR" .absolute (modifyMemoryOps .shiftRight)]

/-- Row 5x of the opcode map. -/
def tableRows5 : List TableRow := [
  row 0x50 "BVC" (.relative { flag := .v, value := false }) [],
  row 0x51 "EOR" .indirectIndexed (aluOps .eor),
  row 0x55 "EOR" .zeroPageX (aluOps .eor),
  row 0x56 "LSR" .zeroPageX (modifyMemoryOps .shiftRight),
  row 0x58 "CLI" .implied [.setFlag .i false],
  row 0x59 "EOR" .absoluteY (aluOps .eor),
  row 0x5D "EOR" .absoluteX (aluOps .eor),
  row 0x5E "LSR" .absoluteX (modifyMemoryOps .shiftRight)]

/-- Row 6x of the opcode map. -/
def tableRows6 : List TableRow := [
  row 0x61 "ADC" .indexedIndirect (aluOps .addWithCarry),
  row 0x65 "ADC" .zeroPage (aluOps .addWithCarry),
  row 0x66 "ROR" .zeroPage (modifyMemoryOps .rotateRight),
  row 0x69 "ADC" .immediate (aluImmediateOps .addWithCarry),
  row 0x6A "ROR" .accumulator [.modifyRegister .a .rotateRight],
  row 0x6C "JMP" .indirect [.jumpToAddress],
  row 0x6D "ADC" .absolute (aluOps .addWithCarry),
  row 0x6E "ROR" .absolute (modifyMemoryOps .rotateRight)]

/-- Row 7x of the opcode map. -/
def tableRows7 : List TableRow := [
  row 0x70 "BVS" (.relative { flag := .v, value := true }) [],
  row 0x71 "ADC" .indirectIndexed (aluOps .addWithCarry),
  row 0x75 "ADC" .zeroPageX (aluOps .addWithCarry),
  row 0x76 "ROR" .zeroPageX (modifyMemoryOps .rotateRight),
  row 0x78 "SEI" .implied [.setFlag .i true],
  row 0x79 "ADC" .absoluteY (aluOps .addWithCarry),
  row 0x7D "ADC" .absoluteX (aluOps .addWithCarry),
  row 0x7E "ROR" .absoluteX (modifyMemoryOps .rotateRight)]

/-- Row 8x of the opcode map. -/
def tableRows8 : List TableRow := [
  row 0x81 "STA" .indexedIndirect (storeOps .a),
  row 0x84 "STY" .zeroPage (storeOps .y),
  row 0x85 "STA" .zeroPage (storeOps .a),
  row 0x86 "STX" .zeroPage (storeOps .x),
  row 0x88 "DEY" .implied [.modifyRegister .y .decrement],
  row 0x8A "TXA" .implied [.storeToRegister .x .a],
  row 0x8C "STY" .absolute (storeOps .y),
  row 0x8D "STA" .absolute (storeOps .a),
  row 0x8E "STX" .absolute (storeOps .x)]

/-- Row 9x of the opcode map. -/
def tableRows9 : List TableRow := [
  row 0x90 "BCC" (.relative { flag := .c, value := false }) [],
  row 0x91 "STA" .indirectIndexed (storeOps .a),
  row 0x94 "STY" .zeroPageX (storeOps .y),
  row 0x95 "STA" .zeroPageX (storeOps .a),
  row 0x96 "STX" .zeroPageY (storeOps .x),
  row 0x98 "TYA" .implied [.storeToRegister .y .a],
  row 0x99 "STA" .absoluteY (storeOps .a),
  row 0x9D "STA" .absoluteX (storeOps .a)]

/-- Row Ax of the opcode map. -/
def tableRowsA : List TableRow := [
  row 0xA0 "LDY" .immediate (loadImmediateOps .y),
  row 0xA1 "LDA" .indexedIndirect (loadOps .a),
  row 0xA2 "LDX" .immediate (loadImmediateOps .x),
  row 0xA4 "LDY" .zeroPage (loadOps .y),
  row 0xA5 "LDA" .zeroPage (loadOps .a),
  row 0xA6 "LDX" .zeroPage (loadOps .x),
  row 0xA8 "TAY" .implied [.storeToRegister .a .y],
  row 0xA9 "LDA" .immediate (loadImmediateOps .a),
  row 0xAA "TAX" .implied [.storeToRegister .a .x],
  row 0xAC "LDY" .absolute (loadOps .y),
  row 0xAD "LDA" .absolute (loadOps .a),
  row 0xAE "LDX" .absolute (loadOps .x)]

/-- Row Bx of the opcode map. -/
def tableRowsB : List TableRow := [
  row 0xB0 "BCS" (.relative { flag := .c, value := true }) [],
  row 0xB1 "LDA" .indirectIndexed (loadOps .a),
  row 0xB4 "LDY" .zeroPageX (loadOps .y),
  row 0xB5 "LDA" .zeroPageX (loadOps .a),
  row 0xB6 "LDX" .zeroPageY (loadOps .x),
  row 0xB8 "CLV" .implied [.setFlag .v false],
  row 0xB9 "LDA" .absoluteY (loadOps .a),
  row 0xBC "LDY" .absoluteX (loadOps .y),
  row 0xBD "LDA" .absoluteX (loadOps .a),
  row 0xBE "LDX" .absoluteY (loadOps .x)]

/-- Row Cx of the opcode map. -/
def tableRowsC : List TableRow := [
  row 0xC0 "CPY" .immediate (compareImmediateOps .y),
  row 0xC1 "CMP" .indexedIndirect (compareOps .a),
  row 0xC4 "CPY" .zeroPage (compareOps .y),
  row 0xC5 "CMP" .zeroPage (compareOps .a),
  row 0xC6 "DEC" .zeroPage (modifyMemoryOps .decrement),
  row 0xC8 "INY" .implied [.modifyRegister .y .increment],
  row 0xC9 "CMP" .immediate (compareImmediateOps .a),
  row 0xCA "DEX" .implied [.modifyRegister .x .decrement],
  row 0xCC "CPY" .absolute (compareOps .y),
  row 0xCD "CMP" .absolute (compareOps .a),
  row 0xCE "DEC" .absolute (modifyMemoryOps .decrement)]

/-- Row Dx of the opcode map. -/
def tableRowsD : List TableRow := [
  row 0xD0 "BNE" (.relative { flag := .z, value := false }) [],
  row 0xD1 "CMP" .indirectIndexed (compareOps .a),
  row 0xD5 "CMP" .zeroPageX (compareOps .a),
  row 0xD6 "DEC" .zeroPageX (modifyMemoryOps .decrement),
  row 0xD8 "CLD" .implied [.setFlag .d false],
  row 0xD9 "CMP" .absoluteY (compareOps .a),
  row 0xDD "CMP" .absoluteX (compareOps .a),
  row 0xDE "DEC" .absoluteX (modifyMemoryOps .decrement)]

/-- Row Ex of the opcode map. -/
def tableRowsE : List TableRow := [
  row 0xE0 "CPX" .immediate (compareImmediateOps .x),
  row 0xE1 "SBC" .indexedIndirect (aluOps .subtractWithBorrow),
  row 0xE4 "CPX" .zeroPage (compareOps .x),
  row 0xE5 "SBC" .zeroPage (aluOps .subtractWithBorrow),
  row 0xE6 "INC" .zeroPage (modifyMemoryOps .increment),
  row 0xE8 "INX" .implied [.modifyRegister .x .increment],
  row 0xE9 "SBC" .immediate (aluImmediateOps .subtractWithBorrow),
  row 0xEA "NOP" .implied [.nop],
  row 0xEC "CPX" .absolute (compareOps .x),
  row 0xED "SBC" .absolute (aluOps .subtractWithBorrow),
  row 0xEE "INC" .absolute (modifyMemoryOps .increment)]

/-- Row Fx of the opcode map. -/
def tableRowsF : List TableRow := [
  row 0xF0 "BEQ" (.relative { flag := .z, value := true }) [],
  row 0xF1 "SBC" .indirectIndexed (aluOps .subtractWithBorrow),
  row 0xF5 "SBC" .zeroPageX (aluOps .subtractWithBorrow),
  row 0xF6 "INC" .zeroPageX (modifyMemoryOps .increment),
  row 0xF8 "SED" .implied [.setFlag .d true],
  row 0xF9 "SBC" .absoluteY (aluOps .subtractWithBorrow),
  row 0xFD "SBC" .absoluteX (aluOps .subtractWithBorrow),
  row 0xFE "INC" .absoluteX (modifyMemoryOps .increment)]

/-- The rows of COMPLETED whose opcode's high nibble is `high`. -/
def completedRows (high : Nat) : List TableRow :=
  match high with
  | 0x0 => tableRows0
  | 0x1 => tableRows1
  | 0x2 => tableRows2
  | 0x3 => tableRows3
  | 0x4 => tableRows4
  | 0x5 => tableRows5
  | 0x6 => tableRows6
  | 0x7 => tableRows7
  | 0x8 => tableRows8
  | 0x9 => tableRows9
  | 0xA => tableRowsA
  | 0xB => tableRowsB
  | 0xC => tableRowsC
  | 0xD => tableRowsD
  | 0xE => tableRowsE
  | 0xF => tableRowsF
  | _ => []

/-- The 142 entries of COMPLETED (R108). -/
def completedTable : List TableRow := (List.range 16).flatMap completedRows

/-- The five entries of SHOWN (R107). -/
def shownTable : List TableRow := [
  row 0x00 "BRK" .implied [.brk],
  row 0xA2 "LDX" .immediate (loadImmediateOps .x),
  row 0xA9 "LDA" .immediate (loadImmediateOps .a),
  row 0x95 "STA" .zeroPageX (storeOps .a),
  row 0xEA "NOP" .implied [.nop]]

/-- The Instruction Table of an OPCODE_SET (R104). -/
def instructionTable : OpcodeSet → List TableRow
  | .shown => shownTable
  | .completed => completedTable

/-- The entry of an opcode byte in some rows, none where it is not populated (R109). -/
def lookupEntry : List TableRow → Byte → Option Entry
  | [], _ => none
  | r :: rest, op => if r.opcode = op then some r.entry else lookupEntry rest op

/-- TABLE[op] under an OPCODE_SET (R109): under COMPLETED the byte's own row of the opcode map is searched.
`tableEntry_eq_lookup` (Laws/Table) says it is the lookup in the whole table. -/
def tableEntry (set : OpcodeSet) (op : Byte) : Option Entry :=
  match set with
  | .shown => lookupEntry shownTable op
  | .completed => lookupEntry (completedRows (op.toNat / 16)) op

/-- The first of checks (b), (c), (d) that an entry's micro-ops fail (R106). -/
def Entry.failedCheck (e : Entry) : Option TableCheck :=
  if !e.expansion.all MicroOp.noSelfStore then some .selfStore
  else if !e.expansion.all MicroOp.noCompareStore then some .compareInComputeAndStore
  else if !e.expansion.all MicroOp.payloadInDomain then some .payloadDomain
  else none

/-- The first row of a table that fails a check, with the check (R106, R403; log 22). -/
def failedTableCheck : List TableRow → Option (Byte × TableCheck)
  | [] => none
  | r :: rest =>
    if rest.any (fun q => q.opcode == r.opcode) then some (r.opcode, .duplicateOpcode)
    else
      match r.entry.failedCheck with
      | some check => some (r.opcode, check)
      | none => failedTableCheck rest

end Sys2Proof.Machine
end

