-- ==== Sys2Proof/Machine/Tick.lean ====
section
/-! DEFINITION. The micro-op sequencer (spec 40_sequencer): the effect of every micro-op, and the tick, "the core's only
step" (R140), which executes exactly one. -/

namespace Sys2Proof.Machine

/-- `FetchByte()` (R147): read the byte at PC, advance PC by one. -/
def State.fetchByte (s : State) : Byte × State :=
  ((s.memRead s.pc).1, { (s.memRead s.pc).2 with pc := s.pc + 1#16 })

/-- FetchOpcode (R144): read the byte at PC, advance PC, look the byte up and enqueue its expansion. On a byte not in the
table it stops at that point with DecodeError (R145, 60_exceptions R401, R404): it "has done nothing but its opcode read
and PC increment" (R406). That read has the effect any read has (20_memory R81), which is none where Memory answers or
no device does (R69, R63), so that there every device is as before the tick; log 15 says how R401's words about devices
are read where another device answers. `s` is the state with FetchOpcode dequeued. -/
def fetchOpcode (s : State) : Host.Outcome State Fault Refusal :=
  match tableEntry s.opcodeSet s.fetchByte.1 with
  | none => s.fetchByte.2.raise (.decodeError s.fetchByte.1 s.pc)
  | some e => .next { s.fetchByte.2 with queue := s.queue ++ e.expansion }

/-- FetchImmediateOperand (R148) and FetchOperand (R149): IO <- FetchByte(). -/
def fetchToOperand (s : State) : State := { s.fetchByte.2 with io := s.fetchByte.1 }

/-- FetchZeroPageAddr (R150) and FetchAddrLo (R151): IA <- {0x00, FetchByte()}. -/
def fetchToAddressLow (s : State) : State := { s.fetchByte.2 with ia := addrOf 0x00#8 s.fetchByte.1 }

/-- FetchAddrHi (R152): IA <- {FetchByte(), IA[7:0]}; the low byte is kept (90_conflicts C1). -/
def fetchAddrHi (s : State) : State := { s.fetchByte.2 with ia := addrOf s.fetchByte.1 (loByte s.ia) }

/-- IncrementAddressByReg{reg, wrap}: without carry into the high byte (R153) or across the full 16 bits (R154). -/
def incrementAddressByReg (reg : Reg8) (wrap : Wrap) (s : State) : State :=
  match wrap with
  | .zeroPage => { s with ia := addrOf (hiByte s.ia) (loByte s.ia + s.getReg reg) }
  | .full => { s with ia := s.ia + (s.getReg reg).zeroExtend 16 }

/-- UnimplementedOperation (60_exceptions R402): raised before the micro-op has any effect, so that the state is as
before the tick but for cycles and the fault: the micro-op is back at the head of Q (log 7). -/
def raiseUnimplemented (u : MicroOp) (s : State) : Host.Outcome State Fault Refusal :=
  { s with queue := u :: s.queue }.raise (.unimplementedOperation u s.pc)

/-- The effect of a micro-op whose payload has a meaning (the rules R146 lists). -/
def microOpEffect (u : MicroOp) (s : State) : Host.Outcome State Fault Refusal :=
  match u with
  | .fetchOpcode => fetchOpcode s
  | .fetchImmediateOperand => .next (fetchToOperand s)
  | .fetchOperand => .next (fetchToOperand s)
  | .fetchZeroPageAddr => .next (fetchToAddressLow s)
  | .fetchAddrLo => .next (fetchToAddressLow s)
  | .fetchAddrHi => .next (fetchAddrHi s)
  | .incrementAddressByReg reg wrap => .next (incrementAddressByReg reg wrap s)
  | .readAddressLo => .next (readAddressLo s)
  | .readAddressHi => .next (readAddressHi s)
  | .readOperand => .next (readOperand s)
  | .incrementPCBySignedOperand cond => .next (incrementPCBySignedOperand cond s)
  | .storeToRegister src dst => .next (storeToRegister src dst s)
  | .writeToAddress src addr => .next (writeToAddress src addr s)
  | .jumpToAddress => .next (jumpToAddress s)
  | .computeAndStore left dst func => .next (computeAndStore left dst func s)
  | .compareToRegister src reg2 => .next (compareToRegister src reg2 s)
  | .bitTest reg => .next (bitTest reg s)
  | .modifyRegister reg func => .next (modifyRegister reg func s)
  | .setFlag flag value => .next (setFlag flag value s)
  | .nop => .next s
  | .brk => .next (halt s)

/-- Execute a dequeued micro-op: one whose payload has no meaning faults, never acts as a no-op (41_microops_alu R198;
log 8). -/
def executeMicroOp (u : MicroOp) (s : State) : Host.Outcome State Fault Refusal :=
  if u.wf then microOpEffect u s else raiseUnimplemented u s

/-- Count the tick and take the head of Q off (R140): `rest` is what stays queued. -/
def State.dequeue (s : State) (rest : List MicroOp) : State :=
  { s with cycles := s.cycles + 1, queue := rest }

/-- One tick (R140; the order of its checks R408): refused while halted or faulted (60_exceptions R405); the cycle
counted; an empty queue refilled with one FetchOpcode (R141); exactly one micro-op executed (R142). -/
def tick (s : State) : Host.Outcome State Fault Refusal :=
  if s.stopped then .refused .tickAfterStop
  else
    match s.queue with
    | [] => executeMicroOp .fetchOpcode (s.dequeue [])
    | u :: rest => executeMicroOp u (s.dequeue rest)

/-- What the tick that left the state `s` returned: "(PC, halted)" (R140, 10_state R35). -/
def State.tickReturn (s : State) : Addr × Bool := (s.pc, s.halted)

/-- `k` ticks, stopping at the first fault or refusal. -/
def tickRun : Nat → State → Host.Outcome State Fault Refusal
  | 0, s => .next s
  | k + 1, s =>
    match tick s with
    | .next t => tickRun k t
    | .fault f => .fault f
    | .refused r => .refused r

/-- The number of ticks of an instruction (R161, 70_reset_and_hazards R448): one for FetchOpcode and one for each
micro-op of its expansion. -/
def Instr.ticks (i : Instr) : Nat :=
  match (encode i).head? with
  | none => 0
  | some op =>
    match tableEntry .completed op with
    | none => 0
    | some e => 1 + e.expansion.length

end Sys2Proof.Machine
end

