-- ==== Sys2Proof/Machine/Fetch.lean ====
section
/-! DEFINITION. Reading an instruction's bytes from the bus (spec 30_encoding R100, 20_memory R86), and placing bytes
where the fetch reads them. An instruction reads all its instruction-stream bytes before any other bus access
(20_memory R86, R88; log 10). -/

namespace Sys2Proof.Machine

/-- Read `n` instruction-stream bytes from consecutive addresses, each mod 2^16 (R100), in order: the bytes, and the
devices after those reads. -/
def readStream : Nat → Addr → List Device → List Byte × List Device
  | 0, _, ds => ([], ds)
  | n + 1, pc, ds =>
    ((busRead ds pc).1 :: (readStream n (pc + 1#16) (busRead ds pc).2).1,
      (readStream n (pc + 1#16) (busRead ds pc).2).2)

/-- The bytes the next instruction is read from: as many as the longest instruction has (R100). -/
def State.streamBytes (s : State) : List Byte := (readStream 3 s.pc s.devices).1

/-- The state with the devices as they are after the instruction's own `n` stream reads. Where the bytes come from
Memory this is `s`, since a Memory read has no side effect (20_memory R69). -/
def State.afterFetch (s : State) (n : Nat) : State :=
  { s with devices := (readStream n s.pc s.devices).2 }

/-- A one-byte Memory holding `v` at `addr`. -/
def oneByteMemory (addr : Addr) (v : Byte) : Memory :=
  ({ lower := addr, upper := addr, cells := [] } : Memory).write addr v

/-- Make the bus read `v` at `addr`: the first readable device there stores it if it is a Memory; otherwise a one-byte
Memory answers before it. -/
def placeByte : List Device → Addr → Byte → List Device
  | [], addr, v => [.memory (oneByteMemory addr v)]
  | d :: ds, addr, v =>
    if d.isReadableFor addr then
      match d with
      | .memory m => .memory (m.write addr v) :: ds
      | .other kind st => .memory (oneByteMemory addr v) :: .other kind st :: ds
    else d :: placeByte ds addr v

/-- Place bytes at consecutive addresses. -/
def placeBytes : List Device → Addr → List Byte → List Device
  | ds, _, [] => ds
  | ds, addr, v :: rest => placeBytes (placeByte ds addr v) (addr + 1#16) rest

end Sys2Proof.Machine
end

