-- ==== Sys2Proof/Machine/Step.lean ====
section
/-! DEFINITION. The step. Between instructions (Q empty) one step is one whole instruction: all its ticks, from the
opcode fetch to the end of its expansion. While micro-ops are pending (the boot sequence, or an instruction the host
ticked part of) one step is one tick. DESIGN CHOICE (log 4), safe: the tick itself is `tick` (40_sequencer R140). -/

namespace Sys2Proof.Machine

/-- One step. Refused while halted or faulted (60_exceptions R405). Bytes that decode run their instruction; bytes that
do not are the DecodeError of a FetchOpcode tick (60_exceptions R401). -/
def step (s : State) : Host.Outcome State Fault Refusal :=
  if s.stopped then .refused .tickAfterStop
  else
    match s.queue with
    | _ :: _ => tick s
    | [] =>
      match decodeIn s.opcodeSet s.streamBytes with
      | .ok (i, _) => exec i (s.afterFetch i.length)
      | .error _ => tick s

/-- `s` with an instruction word's bytes stored where `step` fetches its next instruction, Q empty and the core
neither halted nor faulted, so that the very next step runs it (log 5: this stands for the host's load of a program
and for the boot sequence having run). PC and everything else are unchanged. -/
def State.withFetchWord (s : State) (nbits w : Nat) : State :=
  { s with devices := placeBytes s.devices s.pc (wordBytes nbits w), queue := [], halted := false, fault := none }

end Sys2Proof.Machine
end

