-- ==== Sys2Proof/Laws/PerInstr.lean ====
section
/-! SUPPORT. One lemma per constructor of Instr for the family StreamLength: the length of an instruction's encoding is
one byte and one for each micro-op of its expansion that consumes an instruction-stream byte (spec 30_encoding R101). -/

namespace Sys2Proof.Laws.StreamLength

open Sys2Proof.Machine

/-- The length law of R101 for one instruction: its opcode is populated, and the table's expansion of it consumes as
many stream bytes as the encoding has after the opcode. -/
def Statement (i : Instr) : Prop :=
  ∃ op e, (encode i).head? = some op ∧ tableEntry .completed op = some e ∧
    (encode i).length = 1 + (e.expansion.filter MicroOp.consumesStreamByte).length

theorem brk : Statement (.brk) := ⟨_, _, rfl, rfl, rfl⟩
theorem oraIndX (imm8 : Byte) : Statement (.oraIndX imm8) := ⟨_, _, rfl, rfl, rfl⟩
theorem oraZp (imm8 : Byte) : Statement (.oraZp imm8) := ⟨_, _, rfl, rfl, rfl⟩
theorem aslZp (imm8 : Byte) : Statement (.aslZp imm8) := ⟨_, _, rfl, rfl, rfl⟩
theorem oraImm (imm8 : Byte) : Statement (.oraImm imm8) := ⟨_, _, rfl, rfl, rfl⟩
theorem aslAcc : Statement (.aslAcc) := ⟨_, _, rfl, rfl, rfl⟩
theorem oraAbs (addr : Addr) : Statement (.oraAbs addr) := ⟨_, _, rfl, rfl, rfl⟩
theorem aslAbs (addr : Addr) : Statement (.aslAbs addr) := ⟨_, _, rfl, rfl, rfl⟩
theorem bpl (rr : Byte) : Statement (.bpl rr) := ⟨_, _, rfl, rfl, rfl⟩
theorem oraIndY (imm8 : Byte) : Statement (.oraIndY imm8) := ⟨_, _, rfl, rfl, rfl⟩
theorem oraZpX (imm8 : Byte) : Statement (.oraZpX imm8) := ⟨_, _, rfl, rfl, rfl⟩
theorem aslZpX (imm8 : Byte) : Statement (.aslZpX imm8) := ⟨_, _, rfl, rfl, rfl⟩
theorem clc : Statement (.clc) := ⟨_, _, rfl, rfl, rfl⟩
theorem oraAbsY (addr : Addr) : Statement (.oraAbsY addr) := ⟨_, _, rfl, rfl, rfl⟩
theorem oraAbsX (addr : Addr) : Statement (.oraAbsX addr) := ⟨_, _, rfl, rfl, rfl⟩
theorem aslAbsX (addr : Addr) : Statement (.aslAbsX addr) := ⟨_, _, rfl, rfl, rfl⟩
theorem andIndX (imm8 : Byte) : Statement (.andIndX imm8) := ⟨_, _, rfl, rfl, rfl⟩
theorem bitZp (imm8 : Byte) : Statement (.bitZp imm8) := ⟨_, _, rfl, rfl, rfl⟩
theorem andZp (imm8 : Byte) : Statement (.andZp imm8) := ⟨_, _, rfl, rfl, rfl⟩
theorem rolZp (imm8 : Byte) : Statement (.rolZp imm8) := ⟨_, _, rfl, rfl, rfl⟩
theorem andImm (imm8 : Byte) : Statement (.andImm imm8) := ⟨_, _, rfl, rfl, rfl⟩
theorem rolAcc : Statement (.rolAcc) := ⟨_, _, rfl, rfl, rfl⟩
theorem bitAbs (addr : Addr) : Statement (.bitAbs addr) := ⟨_, _, rfl, rfl, rfl⟩
theorem andAbs (addr : Addr) : Statement (.andAbs addr) := ⟨_, _, rfl, rfl, rfl⟩
theorem rolAbs (addr : Addr) : Statement (.rolAbs addr) := ⟨_, _, rfl, rfl, rfl⟩
theorem bmi (rr : Byte) : Statement (.bmi rr) := ⟨_, _, rfl, rfl, rfl⟩
theorem andIndY (imm8 : Byte) : Statement (.andIndY imm8) := ⟨_, _, rfl, rfl, rfl⟩
theorem andZpX (imm8 : Byte) : Statement (.andZpX imm8) := ⟨_, _, rfl, rfl, rfl⟩
theorem rolZpX (imm8 : Byte) : Statement (.rolZpX imm8) := ⟨_, _, rfl, rfl, rfl⟩
theorem sec : Statement (.sec) := ⟨_, _, rfl, rfl, rfl⟩
theorem andAbsY (addr : Addr) : Statement (.andAbsY addr) := ⟨_, _, rfl, rfl, rfl⟩
theorem andAbsX (addr : Addr) : Statement (.andAbsX addr) := ⟨_, _, rfl, rfl, rfl⟩
theorem rolAbsX (addr : Addr) : Statement (.rolAbsX addr) := ⟨_, _, rfl, rfl, rfl⟩
theorem eorIndX (imm8 : Byte) : Statement (.eorIndX imm8) := ⟨_, _, rfl, rfl, rfl⟩
theorem eorZp (imm8 : Byte) : Statement (.eorZp imm8) := ⟨_, _, rfl, rfl, rfl⟩
theorem lsrZp (imm8 : Byte) : Statement (.lsrZp imm8) := ⟨_, _, rfl, rfl, rfl⟩
theorem eorImm (imm8 : Byte) : Statement (.eorImm imm8) := ⟨_, _, rfl, rfl, rfl⟩
theorem lsrAcc : Statement (.lsrAcc) := ⟨_, _, rfl, rfl, rfl⟩
theorem jmpAbs (addr : Addr) : Statement (.jmpAbs addr) := ⟨_, _, rfl, rfl, rfl⟩
theorem eorAbs (addr : Addr) : Statement (.eorAbs addr) := ⟨_, _, rfl, rfl, rfl⟩
theorem lsrAbs (addr : Addr) : Statement (.lsrAbs addr) := ⟨_, _, rfl, rfl, rfl⟩
theorem bvc (rr : Byte) : Statement (.bvc rr) := ⟨_, _, rfl, rfl, rfl⟩
theorem eorIndY (imm8 : Byte) : Statement (.eorIndY imm8) := ⟨_, _, rfl, rfl, rfl⟩
theorem eorZpX (imm8 : Byte) : Statement (.eorZpX imm8) := ⟨_, _, rfl, rfl, rfl⟩
theorem lsrZpX (imm8 : Byte) : Statement (.lsrZpX imm8) := ⟨_, _, rfl, rfl, rfl⟩
theorem cli : Statement (.cli) := ⟨_, _, rfl, rfl, rfl⟩
theorem eorAbsY (addr : Addr) : Statement (.eorAbsY addr) := ⟨_, _, rfl, rfl, rfl⟩
theorem eorAbsX (addr : Addr) : Statement (.eorAbsX addr) := ⟨_, _, rfl, rfl, rfl⟩
theorem lsrAbsX (addr : Addr) : Statement (.lsrAbsX addr) := ⟨_, _, rfl, rfl, rfl⟩
theorem adcIndX (imm8 : Byte) : Statement (.adcIndX imm8) := ⟨_, _, rfl, rfl, rfl⟩
theorem adcZp (imm8 : Byte) : Statement (.adcZp imm8) := ⟨_, _, rfl, rfl, rfl⟩
theorem rorZp (imm8 : Byte) : Statement (.rorZp imm8) := ⟨_, _, rfl, rfl, rfl⟩
theorem adcImm (imm8 : Byte) : Statement (.adcImm imm8) := ⟨_, _, rfl, rfl, rfl⟩
theorem rorAcc : Statement (.rorAcc) := ⟨_, _, rfl, rfl, rfl⟩
theorem jmpInd (addr : Addr) : Statement (.jmpInd addr) := ⟨_, _, rfl, rfl, rfl⟩
theorem adcAbs (addr : Addr) : Statement (.adcAbs addr) := ⟨_, _, rfl, rfl, rfl⟩
theorem rorAbs (addr : Addr) : Statement (.rorAbs addr) := ⟨_, _, rfl, rfl, rfl⟩
theorem bvs (rr : Byte) : Statement (.bvs rr) := ⟨_, _, rfl, rfl, rfl⟩
theorem adcIndY (imm8 : Byte) : Statement (.adcIndY imm8) := ⟨_, _, rfl, rfl, rfl⟩
theorem adcZpX (imm8 : Byte) : Statement (.adcZpX imm8) := ⟨_, _, rfl, rfl, rfl⟩
theorem rorZpX (imm8 : Byte) : Statement (.rorZpX imm8) := ⟨_, _, rfl, rfl, rfl⟩
theorem sei : Statement (.sei) := ⟨_, _, rfl, rfl, rfl⟩
theorem adcAbsY (addr : Addr) : Statement (.adcAbsY addr) := ⟨_, _, rfl, rfl, rfl⟩
theorem adcAbsX (addr : Addr) : Statement (.adcAbsX addr) := ⟨_, _, rfl, rfl, rfl⟩
theorem rorAbsX (addr : Addr) : Statement (.rorAbsX addr) := ⟨_, _, rfl, rfl, rfl⟩
theorem staIndX (imm8 : Byte) : Statement (.staIndX imm8) := ⟨_, _, rfl, rfl, rfl⟩
theorem styZp (imm8 : Byte) : Statement (.styZp imm8) := ⟨_, _, rfl, rfl, rfl⟩
theorem staZp (imm8 : Byte) : Statement (.staZp imm8) := ⟨_, _, rfl, rfl, rfl⟩
theorem stxZp (imm8 : Byte) : Statement (.stxZp imm8) := ⟨_, _, rfl, rfl, rfl⟩
theorem dey : Statement (.dey) := ⟨_, _, rfl, rfl, rfl⟩
theorem txa : Statement (.txa) := ⟨_, _, rfl, rfl, rfl⟩
theorem styAbs (addr : Addr) : Statement (.styAbs addr) := ⟨_, _, rfl, rfl, rfl⟩
theorem staAbs (addr : Addr) : Statement (.staAbs addr) := ⟨_, _, rfl, rfl, rfl⟩
theorem stxAbs (addr : Addr) : Statement (.stxAbs addr) := ⟨_, _, rfl, rfl, rfl⟩
theorem bcc (rr : Byte) : Statement (.bcc rr) := ⟨_, _, rfl, rfl, rfl⟩
theorem staIndY (imm8 : Byte) : Statement (.staIndY imm8) := ⟨_, _, rfl, rfl, rfl⟩
theorem styZpX (imm8 : Byte) : Statement (.styZpX imm8) := ⟨_, _, rfl, rfl, rfl⟩
theorem staZpX (imm8 : Byte) : Statement (.staZpX imm8) := ⟨_, _, rfl, rfl, rfl⟩
theorem stxZpY (imm8 : Byte) : Statement (.stxZpY imm8) := ⟨_, _, rfl, rfl, rfl⟩
theorem tya : Statement (.tya) := ⟨_, _, rfl, rfl, rfl⟩
theorem staAbsY (addr : Addr) : Statement (.staAbsY addr) := ⟨_, _, rfl, rfl, rfl⟩
theorem staAbsX (addr : Addr) : Statement (.staAbsX addr) := ⟨_, _, rfl, rfl, rfl⟩
theorem ldyImm (imm8 : Byte) : Statement (.ldyImm imm8) := ⟨_, _, rfl, rfl, rfl⟩
theorem ldaIndX (imm8 : Byte) : Statement (.ldaIndX imm8) := ⟨_, _, rfl, rfl, rfl⟩
theorem ldxImm (imm8 : Byte) : Statement (.ldxImm imm8) := ⟨_, _, rfl, rfl, rfl⟩
theorem ldyZp (imm8 : Byte) : Statement (.ldyZp imm8) := ⟨_, _, rfl, rfl, rfl⟩
theorem ldaZp (imm8 : Byte) : Statement (.ldaZp imm8) := ⟨_, _, rfl, rfl, rfl⟩
theorem ldxZp (imm8 : Byte) : Statement (.ldxZp imm8) := ⟨_, _, rfl, rfl, rfl⟩
theorem tay : Statement (.tay) := ⟨_, _, rfl, rfl, rfl⟩
theorem ldaImm (imm8 : Byte) : Statement (.ldaImm imm8) := ⟨_, _, rfl, rfl, rfl⟩
theorem tax : Statement (.tax) := ⟨_, _, rfl, rfl, rfl⟩
theorem ldyAbs (addr : Addr) : Statement (.ldyAbs addr) := ⟨_, _, rfl, rfl, rfl⟩
theorem ldaAbs (addr : Addr) : Statement (.ldaAbs addr) := ⟨_, _, rfl, rfl, rfl⟩
theorem ldxAbs (addr : Addr) : Statement (.ldxAbs addr) := ⟨_, _, rfl, rfl, rfl⟩
theorem bcs (rr : Byte) : Statement (.bcs rr) := ⟨_, _, rfl, rfl, rfl⟩
theorem ldaIndY (imm8 : Byte) : Statement (.ldaIndY imm8) := ⟨_, _, rfl, rfl, rfl⟩
theorem ldyZpX (imm8 : Byte) : Statement (.ldyZpX imm8) := ⟨_, _, rfl, rfl, rfl⟩
theorem ldaZpX (imm8 : Byte) : Statement (.ldaZpX imm8) := ⟨_, _, rfl, rfl, rfl⟩
theorem ldxZpY (imm8 : Byte) : Statement (.ldxZpY imm8) := ⟨_, _, rfl, rfl, rfl⟩
theorem clv : Statement (.clv) := ⟨_, _, rfl, rfl, rfl⟩
theorem ldaAbsY (addr : Addr) : Statement (.ldaAbsY addr) := ⟨_, _, rfl, rfl, rfl⟩
theorem ldyAbsX (addr : Addr) : Statement (.ldyAbsX addr) := ⟨_, _, rfl, rfl, rfl⟩
theorem ldaAbsX (addr : Addr) : Statement (.ldaAbsX addr) := ⟨_, _, rfl, rfl, rfl⟩
theorem ldxAbsY (addr : Addr) : Statement (.ldxAbsY addr) := ⟨_, _, rfl, rfl, rfl⟩
theorem cpyImm (imm8 : Byte) : Statement (.cpyImm imm8) := ⟨_, _, rfl, rfl, rfl⟩
theorem cmpIndX (imm8 : Byte) : Statement (.cmpIndX imm8) := ⟨_, _, rfl, rfl, rfl⟩
theorem cpyZp (imm8 : Byte) : Statement (.cpyZp imm8) := ⟨_, _, rfl, rfl, rfl⟩
theorem cmpZp (imm8 : Byte) : Statement (.cmpZp imm8) := ⟨_, _, rfl, rfl, rfl⟩
theorem decZp (imm8 : Byte) : Statement (.decZp imm8) := ⟨_, _, rfl, rfl, rfl⟩
theorem iny : Statement (.iny) := ⟨_, _, rfl, rfl, rfl⟩
theorem cmpImm (imm8 : Byte) : Statement (.cmpImm imm8) := ⟨_, _, rfl, rfl, rfl⟩
theorem dex : Statement (.dex) := ⟨_, _, rfl, rfl, rfl⟩
theorem cpyAbs (addr : Addr) : Statement (.cpyAbs addr) := ⟨_, _, rfl, rfl, rfl⟩
theorem cmpAbs (addr : Addr) : Statement (.cmpAbs addr) := ⟨_, _, rfl, rfl, rfl⟩
theorem decAbs (addr : Addr) : Statement (.decAbs addr) := ⟨_, _, rfl, rfl, rfl⟩
theorem bne (rr : Byte) : Statement (.bne rr) := ⟨_, _, rfl, rfl, rfl⟩
theorem cmpIndY (imm8 : Byte) : Statement (.cmpIndY imm8) := ⟨_, _, rfl, rfl, rfl⟩
theorem cmpZpX (imm8 : Byte) : Statement (.cmpZpX imm8) := ⟨_, _, rfl, rfl, rfl⟩
theorem decZpX (imm8 : Byte) : Statement (.decZpX imm8) := ⟨_, _, rfl, rfl, rfl⟩
theorem cld : Statement (.cld) := ⟨_, _, rfl, rfl, rfl⟩
theorem cmpAbsY (addr : Addr) : Statement (.cmpAbsY addr) := ⟨_, _, rfl, rfl, rfl⟩
theorem cmpAbsX (addr : Addr) : Statement (.cmpAbsX addr) := ⟨_, _, rfl, rfl, rfl⟩
theorem decAbsX (addr : Addr) : Statement (.decAbsX addr) := ⟨_, _, rfl, rfl, rfl⟩
theorem cpxImm (imm8 : Byte) : Statement (.cpxImm imm8) := ⟨_, _, rfl, rfl, rfl⟩
theorem sbcIndX (imm8 : Byte) : Statement (.sbcIndX imm8) := ⟨_, _, rfl, rfl, rfl⟩
theorem cpxZp (imm8 : Byte) : Statement (.cpxZp imm8) := ⟨_, _, rfl, rfl, rfl⟩
theorem sbcZp (imm8 : Byte) : Statement (.sbcZp imm8) := ⟨_, _, rfl, rfl, rfl⟩
theorem incZp (imm8 : Byte) : Statement (.incZp imm8) := ⟨_, _, rfl, rfl, rfl⟩
theorem inx : Statement (.inx) := ⟨_, _, rfl, rfl, rfl⟩
theorem sbcImm (imm8 : Byte) : Statement (.sbcImm imm8) := ⟨_, _, rfl, rfl, rfl⟩
theorem nop : Statement (.nop) := ⟨_, _, rfl, rfl, rfl⟩
theorem cpxAbs (addr : Addr) : Statement (.cpxAbs addr) := ⟨_, _, rfl, rfl, rfl⟩
theorem sbcAbs (addr : Addr) : Statement (.sbcAbs addr) := ⟨_, _, rfl, rfl, rfl⟩
theorem incAbs (addr : Addr) : Statement (.incAbs addr) := ⟨_, _, rfl, rfl, rfl⟩
theorem beq (rr : Byte) : Statement (.beq rr) := ⟨_, _, rfl, rfl, rfl⟩
theorem sbcIndY (imm8 : Byte) : Statement (.sbcIndY imm8) := ⟨_, _, rfl, rfl, rfl⟩
theorem sbcZpX (imm8 : Byte) : Statement (.sbcZpX imm8) := ⟨_, _, rfl, rfl, rfl⟩
theorem incZpX (imm8 : Byte) : Statement (.incZpX imm8) := ⟨_, _, rfl, rfl, rfl⟩
theorem sed : Statement (.sed) := ⟨_, _, rfl, rfl, rfl⟩
theorem sbcAbsY (addr : Addr) : Statement (.sbcAbsY addr) := ⟨_, _, rfl, rfl, rfl⟩
theorem sbcAbsX (addr : Addr) : Statement (.sbcAbsX addr) := ⟨_, _, rfl, rfl, rfl⟩
theorem incAbsX (addr : Addr) : Statement (.incAbsX addr) := ⟨_, _, rfl, rfl, rfl⟩

end Sys2Proof.Laws.StreamLength
end

