-- ==== Sys2Proof/Machine/HostOps.lean ====
section
/-! DEFINITION. What the host does to the core and its devices, always between ticks (spec 70_reset_and_hazards R451):
construct, register, bulk load, dump, bus access, the cycle query. Reset is `State.resetCore`, a tick is `tick`. -/

namespace Sys2Proof.Machine

/-- Construction from any table (R440 step 1): the table is checked, and a table that fails is refused with
InvariantViolation (60_exceptions R403); otherwise the state is set. No bus access. -/
def constructFrom (table : List TableRow) (initial : State) : Host.Outcome State Fault Refusal :=
  match failedTableCheck table with
  | some (opcode, check) => .refused (.invariantViolation opcode check)
  | none => .next initial

/-- `construct(OPCODE_SET, RESET_REGS)` on a platform (R440). -/
def construct (set : OpcodeSet) (regs : ResetRegs) (devices : List Device) : Host.Outcome State Fault Refusal :=
  constructFrom (instructionTable set) (State.constructed set regs devices)

/-- A new Memory over [lower, upper] with nothing written, refused when lower > upper (20_memory R68, R71). -/
def newMemory (lower upper : Addr) : Option Memory :=
  if lower.toNat ≤ upper.toNat then some { lower := lower, upper := upper, cells := [] } else none

/-- `register(device)` (20_memory R60, R62): appended at the end, before the first tick only; no overlap check. A
Memory with lower > upper is refused (R68). -/
def register (d : Device) (s : State) : Host.Outcome State Fault Refusal :=
  if s.cycles ≠ 0 then .refused .registrationClosed
  else if d.wf then .next { s with devices := s.devices ++ [d] }
  else .refused .illFormedMemory

/-- Store bytes at consecutive addresses of a Memory. -/
def Memory.load (m : Memory) : Addr → List Byte → Memory
  | _, [] => m
  | addr, v :: rest => (m.write addr v).load (addr + 1#16) rest

/-- `Memory.write(start, bytes)` (20_memory R72): refused as a whole when `start < lower` or
`start + len - 1 > upper`, computed without wrap; an empty load writes nothing and is accepted. -/
def Memory.bulkLoad (m : Memory) (start : Addr) (bytes : List Byte) : Option Memory :=
  if bytes = [] then some m
  else if m.lower.toNat ≤ start.toNat ∧ start.toNat + bytes.length - 1 ≤ m.upper.toNat then some (m.load start bytes)
  else none

/-- The host's bulk load of device `k` of the list, directly on the device (R72, R89). -/
def bulkLoad (k : Nat) (start : Addr) (bytes : List Byte) (s : State) : Host.Outcome State Fault Refusal :=
  match s.devices[k]? with
  | some (.memory m) =>
    match m.bulkLoad start bytes with
    | some m' => .next { s with devices := s.devices.set k (.memory m') }
    | none => .refused .bulkLoadOutOfRange
  | some (.other _ _) => .refused .notAMemory
  | none => .refused .notAMemory

/-- The bytes of a Memory from an address on. -/
def Memory.bytesFrom (m : Memory) : Addr → Nat → List Byte
  | _, 0 => []
  | addr, n + 1 => m.read addr :: m.bytesFrom (addr + 1#16) n

/-- `Memory.dump(lo, hi)` (20_memory R73): the stored bytes from lo to hi inclusive, no side effects. A range not
inside the Memory's gives nothing (log 13). -/
def Memory.dump (m : Memory) (lo hi : Addr) : Option (List Byte) :=
  if m.lower.toNat ≤ lo.toNat ∧ hi.toNat ≤ m.upper.toNat then some (m.bytesFrom lo (hi.toNat + 1 - lo.toNat)) else none

/-- The host's dump of device `k` (R451): the bytes, or why not; the state is not touched. -/
def dump (k : Nat) (lo hi : Addr) (s : State) : Except Refusal (List Byte) :=
  match s.devices[k]? with
  | some (.memory m) =>
    match m.dump lo hi with
    | some bytes => .ok bytes
    | none => .error .dumpOutOfRange
  | some (.other _ _) => .error .notAMemory
  | none => .error .notAMemory

/-- The host's `Bus.read` between ticks (R451): the byte and the state with the devices after. -/
def hostRead (addr : Addr) (s : State) : Byte × State := s.memRead addr

/-- The host's `Bus.write` between ticks (R451). -/
def hostWrite (addr : Addr) (v : Byte) (s : State) : State := s.memWrite addr v

/-- `get_user_cycles()` (R450): `max(0, cycles - 3)`; natural-number subtraction saturates at 0. -/
def State.userCycles (s : State) : Nat := s.cycles - Config.bootLength

end Sys2Proof.Machine
end

