-- ==== Sys2Proof/Safety.lean ====
section
/-! DEFINITION. The terms claims are stated in: the phases, the invariant, what a read of one byte gives, the end of a
run and its observation (spec 10_state R44, 70_reset_and_hazards R452). -/

namespace Sys2Proof.Machine

/-- The phase of the core between ticks (10_state R44). -/
inductive Phase where
  | idle | executing | halted | faulted
deriving DecidableEq, Repr

/-- The phase as a function of Q and the bits of R45. -/
def State.phase (s : State) : Phase :=
  if s.fault.isSome then .faulted else if s.halted then .halted
  else match s.queue with
    | [] => .idle
    | _ :: _ => .executing

/-- Ready to fetch: between instructions and not stopped. -/
def State.idle (s : State) : Prop := s.queue = [] ∧ s.halted = false ∧ s.fault = none

/-- The state a fault leaves, with the record in it (60_exceptions R401, R402). -/
def Fault.after : Fault → State
  | .decodeError _ _ after => after
  | .unimplementedOperation _ _ after => after

/-- The state a tick or step leaves: none for a refusal, which changes nothing (60_exceptions R405). -/
def stateAfter : Host.Outcome State Fault Refusal → Option State
  | .next s => some s
  | .fault f => some f.after
  | .refused _ => none

/-- What a bus read of one byte would give (20_memory R63), with no access made. -/
def State.peek (s : State) (addr : Addr) : Byte := (busRead s.devices addr).1

/-- Every device is a Memory: the platform the source describes (20_memory R68, R75). -/
def State.memoryOnly (s : State) : Prop := ∀ d ∈ s.devices, ∃ m, d = .memory m

/-- "Q only ever holds the boot sequence or the rest of one expansion, never both" (10_state R44). -/
def queueWf (set : OpcodeSet) (q : List MicroOp) : Prop :=
  q <:+ bootSequence ∨ ∃ r ∈ instructionTable set, q <:+ r.entry.expansion

/-- The invariant: every Memory is in its canonical form, and Q holds what R44 says. -/
structure State.Inv (s : State) : Prop where
  devicesWf : ∀ d ∈ s.devices, d.wf = true
  queueOk : queueWf s.opcodeSet s.queue

/-- What a device is, its contents apart: a Memory's range, or which other device. -/
def Device.shape : Device → (Addr × Addr) ⊕ Nat
  | .memory m => .inl (m.lower, m.upper)
  | .other kind _ => .inr kind

/-- The platform, contents apart: DEVICES is fixed once ticking begins (20_memory R60). -/
def State.platform (s : State) : List ((Addr × Addr) ⊕ Nat) := s.devices.map Device.shape

/-- What the host observes at the end of a run (70_reset_and_hazards R452). -/
structure Observation where
  a : Byte
  x : Byte
  y : Byte
  flagN : Bool
  flagV : Bool
  flagD : Bool
  flagI : Bool
  flagZ : Bool
  flagC : Bool
  pc : Addr
  userCycles : Nat
  devices : List Device
deriving DecidableEq, Repr

/-- The observation of a state (R452); IA, IO and Q are not observed. -/
def State.observe (s : State) : Observation :=
  { a := s.a, x := s.x, y := s.y, flagN := s.flagN, flagV := s.flagV, flagD := s.flagD, flagI := s.flagI,
    flagZ := s.flagZ, flagC := s.flagC, pc := s.pc, userCycles := s.userCycles, devices := s.devices }

/-- A safe run: `k` ticks from `s` end at a tick that halts, none before it having halted, faulted or been refused
(R452, the normal end). -/
def HaltsAfter (k : Nat) (s t : State) : Prop :=
  tickRun k s = .next t ∧ t.halted = true ∧ ∀ j < k, ∃ u, tickRun j s = .next u ∧ u.halted = false

end Sys2Proof.Machine
end

