-- ==== Sys2Proof/Certificates/Slice0/Obligations.lean ====
section
/-! DEFINITION. The statements for the provers, from the spec's numbered rules, with the vocabulary they share. -/

open Sys2Proof Sys2Proof.Machine

namespace Sys2Proof.Claims

/-! ## Vocabulary: what a result writes -/

/-- A takes `v`, N and Z follow it; nothing else changes. -/
def setA (u : State) (v : Byte) : State := { u with a := v, flagN := v.getLsbD 7, flagZ := decide (v = 0) }

/-- X takes `v`, N and Z follow it; nothing else changes. -/
def setX (u : State) (v : Byte) : State := { u with x := v, flagN := v.getLsbD 7, flagZ := decide (v = 0) }

/-- Y takes `v`, N and Z follow it; nothing else changes. -/
def setY (u : State) (v : Byte) : State := { u with y := v, flagN := v.getLsbD 7, flagZ := decide (v = 0) }

/-- C as a number, the carry in of the adder. -/
def carryNat (u : State) : Nat := if u.flagC then 1 else 0

/-- A compare of register value `r` with operand `m`: N and Z of the difference, C from the unsigned comparison. -/
def compared (u : State) (r m : Byte) : State :=
  { u with flagN := (r - m).getLsbD 7, flagZ := decide (r = m), flagC := decide (m.toNat ≤ r.toNat) }

/-- A read-modify-write's end: the result `v` in IO, N and Z of it, C as given, one bus write of `v` to IA. -/
def writtenBack (u : State) (v : Byte) (c : Bool) : State :=
  { u with io := v, flagN := v.getLsbD 7, flagZ := decide (v = 0), flagC := c,
           devices := busWrite u.devices u.ia v }

/-- ADC's effect on the state `u` whose IO is the operand, in integers: the sum of three terms; C is the carry out of
8 bits; V says that the signed sum leaves −128..127. -/
def added (u : State) : State :=
  let sum := u.a.toNat + u.io.toNat + carryNat u
  let signedSum := u.a.toInt + u.io.toInt + (carryNat u : Int)
  { setA u (BitVec.ofNat 8 sum) with flagC := decide (256 ≤ sum), flagV := decide (signedSum < -128 ∨ 127 < signedSum) }

/-- SBC's effect in integers: A − M − (1 − C); C is "no borrow"; V says that the signed difference leaves
−128..127. -/
def subtracted (u : State) : State :=
  let borrow := 1 - carryNat u
  let signedDifference := u.a.toInt - u.io.toInt - (borrow : Int)
  { setA u (u.a - u.io - BitVec.ofNat 8 borrow) with
    flagC := decide (u.io.toNat + borrow ≤ u.a.toNat),
    flagV := decide (signedDifference < -128 ∨ 127 < signedDifference) }

/-- The instruction words of the eight operand forms: the form's opcode byte, then its operand bytes, low byte
first. -/
def EightWords (imm zp zpX : Byte → Instr) (abs absX absY : Addr → Instr) (indX indY : Byte → Instr)
    (opImm opZp opZpX opAbs opAbsX opAbsY opIndX opIndY : Byte) : Prop :=
  ∀ (imm8 : Byte) (addr : Addr),
    encode (imm imm8) = [opImm, imm8] ∧ encode (zp imm8) = [opZp, imm8] ∧ encode (zpX imm8) = [opZpX, imm8] ∧
    encode (abs addr) = [opAbs, loByte addr, hiByte addr] ∧ encode (absX addr) = [opAbsX, loByte addr, hiByte addr] ∧
    encode (absY addr) = [opAbsY, loByte addr, hiByte addr] ∧
    encode (indX imm8) = [opIndX, imm8] ∧ encode (indY imm8) = [opIndY, imm8]

/-- The instruction words of a memory read-modify-write's four forms. -/
def ModifyWords (zp zpX : Byte → Instr) (abs absX : Addr → Instr) (opZp opZpX opAbs opAbsX : Byte) : Prop :=
  ∀ (imm8 : Byte) (addr : Addr),
    encode (zp imm8) = [opZp, imm8] ∧ encode (zpX imm8) = [opZpX, imm8] ∧
    encode (abs addr) = [opAbs, loByte addr, hiByte addr] ∧ encode (absX addr) = [opAbsX, loByte addr, hiByte addr]

/-- The instruction words of LDX and LDY: five forms, `idx` being the index register's forms. -/
def LoadIndexWords (imm zp zpIdx : Byte → Instr) (abs absIdx : Addr → Instr) (opImm opZp opZpIdx opAbs opAbsIdx : Byte) :
    Prop :=
  ∀ (imm8 : Byte) (addr : Addr),
    encode (imm imm8) = [opImm, imm8] ∧ encode (zp imm8) = [opZp, imm8] ∧ encode (zpIdx imm8) = [opZpIdx, imm8] ∧
    encode (abs addr) = [opAbs, loByte addr, hiByte addr] ∧ encode (absIdx addr) = [opAbsIdx, loByte addr, hiByte addr]

/-- The next states of an instruction with the eight operand forms of LDA, ADC, SBC, AND, ORA, EOR and CMP: `effect` is
applied to the state in which PC stands past the instruction, the ticks are counted and IO holds the operand. -/
def EightForms (imm zp zpX : Byte → Instr) (abs absX absY : Addr → Instr) (indX indY : Byte → Instr)
    (effect : State → State) : Prop :=
  ∀ (imm8 : Byte) (addr : Addr) (s : State),
    exec (imm imm8) s = .next (effect (immediate imm8 (s.advance 2 3))) ∧
    exec (zp imm8) s = .next (effect (readOperand (eaZeroPage imm8 (s.advance 2 4)))) ∧
    exec (zpX imm8) s = .next (effect (readOperand (eaZeroPageX imm8 (s.advance 2 5)))) ∧
    exec (abs addr) s = .next (effect (readOperand (eaAbsolute addr (s.advance 3 5)))) ∧
    exec (absX addr) s = .next (effect (readOperand (eaAbsoluteX addr (s.advance 3 6)))) ∧
    exec (absY addr) s = .next (effect (readOperand (eaAbsoluteY addr (s.advance 3 6)))) ∧
    exec (indX imm8) s = .next (effect (readOperand (eaIndexedIndirect imm8 (s.advance 2 7)))) ∧
    exec (indY imm8) s = .next (effect (readOperand (eaIndirectIndexed imm8 (s.advance 2 7))))

/-- The next states of a memory read-modify-write's four forms: `effect` is applied to the state whose IO holds the
byte read at IA. -/
def ModifyForms (zp zpX : Byte → Instr) (abs absX : Addr → Instr) (effect : State → State) : Prop :=
  ∀ (imm8 : Byte) (addr : Addr) (s : State),
    exec (zp imm8) s = .next (effect (readOperand (eaZeroPage imm8 (s.advance 2 5)))) ∧
    exec (zpX imm8) s = .next (effect (readOperand (eaZeroPageX imm8 (s.advance 2 6)))) ∧
    exec (abs addr) s = .next (effect (readOperand (eaAbsolute addr (s.advance 3 6)))) ∧
    exec (absX addr) s = .next (effect (readOperand (eaAbsoluteX addr (s.advance 3 7))))

/-- A branch with opcode byte `op`, taken when `flag` of the state holds `value`: the displacement counts from the next instruction. -/
def BranchForm (op : Byte) (branchOn : Byte → Instr) (flag : State → Bool) (value : Bool) : Prop :=
  ∀ (rr : Byte) (s : State),
    encode (branchOn rr) = [op, rr] ∧
    exec (branchOn rr) s =
      .next { s with
        io := rr, cycles := s.cycles + 3,
        pc := if flag s = value then BitVec.ofInt 16 ((s.pc.toNat : Int) + 2 + rr.toInt) else s.pc + 2 }

/-! ## Vocabulary: which instruction writes what -/

/-- The address an instruction stores to, none for a form that stores nothing: the meaning's own address form, applied
to the state the meaning applies it to. -/
def storeTarget (i : Instr) (s : State) : Option Addr :=
  match i with
  | .staZp imm8 => some (eaZeroPage imm8 (s.advance 2 3)).ia
  | .staZpX imm8 => some (eaZeroPageX imm8 (s.advance 2 4)).ia
  | .staAbs addr => some (eaAbsolute addr (s.advance 3 4)).ia
  | .staAbsX addr => some (eaAbsoluteX addr (s.advance 3 5)).ia
  | .staAbsY addr => some (eaAbsoluteY addr (s.advance 3 5)).ia
  | .staIndX imm8 => some (eaIndexedIndirect imm8 (s.advance 2 6)).ia
  | .staIndY imm8 => some (eaIndirectIndexed imm8 (s.advance 2 6)).ia
  | .stxZp imm8 => some (eaZeroPage imm8 (s.advance 2 3)).ia
  | .stxZpY imm8 => some (eaZeroPageY imm8 (s.advance 2 4)).ia
  | .stxAbs addr => some (eaAbsolute addr (s.advance 3 4)).ia
  | .styZp imm8 => some (eaZeroPage imm8 (s.advance 2 3)).ia
  | .styZpX imm8 => some (eaZeroPageX imm8 (s.advance 2 4)).ia
  | .styAbs addr => some (eaAbsolute addr (s.advance 3 4)).ia
  | .aslZp imm8 | .lsrZp imm8 | .rolZp imm8 | .rorZp imm8 | .incZp imm8 | .decZp imm8 =>
    some (eaZeroPage imm8 (s.advance 2 5)).ia
  | .aslZpX imm8 | .lsrZpX imm8 | .rolZpX imm8 | .rorZpX imm8 | .incZpX imm8 | .decZpX imm8 =>
    some (eaZeroPageX imm8 (s.advance 2 6)).ia
  | .aslAbs addr | .lsrAbs addr | .rolAbs addr | .rorAbs addr | .incAbs addr | .decAbs addr =>
    some (eaAbsolute addr (s.advance 3 6)).ia
  | .aslAbsX addr | .lsrAbsX addr | .rolAbsX addr | .rorAbsX addr | .incAbsX addr | .decAbsX addr =>
    some (eaAbsoluteX addr (s.advance 3 7)).ia
  | _ => none

/-- ADC and SBC. -/
def isAddSubtract : Instr → Bool
  | .adcImm _ | .adcZp _ | .adcZpX _ | .adcAbs _ | .adcAbsX _ | .adcAbsY _ | .adcIndX _ | .adcIndY _ => true
  | .sbcImm _ | .sbcZp _ | .sbcZpX _ | .sbcAbs _ | .sbcAbsX _ | .sbcAbsY _ | .sbcIndX _ | .sbcIndY _ => true
  | _ => false

/-- CMP, CPX and CPY. -/
def isCompare : Instr → Bool
  | .cmpImm _ | .cmpZp _ | .cmpZpX _ | .cmpAbs _ | .cmpAbsX _ | .cmpAbsY _ | .cmpIndX _ | .cmpIndY _ => true
  | .cpxImm _ | .cpxZp _ | .cpxAbs _ | .cpyImm _ | .cpyZp _ | .cpyAbs _ => true
  | _ => false

/-- BIT. -/
def isBitTest : Instr → Bool
  | .bitZp _ | .bitAbs _ => true
  | _ => false

/-- ASL, LSR, ROL and ROR, on memory or on A. -/
def isShift : Instr → Bool
  | .aslZp _ | .aslZpX _ | .aslAbs _ | .aslAbsX _ | .aslAcc => true
  | .lsrZp _ | .lsrZpX _ | .lsrAbs _ | .lsrAbsX _ | .lsrAcc => true
  | .rolZp _ | .rolZpX _ | .rolAbs _ | .rolAbsX _ | .rolAcc => true
  | .rorZp _ | .rorZpX _ | .rorAbs _ | .rorAbsX _ | .rorAcc => true
  | _ => false

/-- The stores, jumps, branches, halt, no-op and flag instructions: those that write neither N nor Z (10_state R37,
R38). -/
def keepsNZ : Instr → Bool
  | .staZp _ | .staZpX _ | .staAbs _ | .staAbsX _ | .staAbsY _ | .staIndX _ | .staIndY _ => true
  | .stxZp _ | .stxZpY _ | .stxAbs _ | .styZp _ | .styZpX _ | .styAbs _ => true
  | .jmpAbs _ | .jmpInd _ => true
  | .bpl _ | .bmi _ | .bvc _ | .bvs _ | .bcc _ | .bcs _ | .bne _ | .beq _ => true
  | .brk | .nop | .clc | .sec | .cli | .sei | .clv | .cld | .sed => true
  | _ => false

/-- The instructions that write A: LDA, TXA, TYA, ADC, SBC, AND, ORA, EOR and the accumulator shifts and rotates. -/
def writesA : Instr → Bool
  | .ldaImm _ | .ldaZp _ | .ldaZpX _ | .ldaAbs _ | .ldaAbsX _ | .ldaAbsY _ | .ldaIndX _ | .ldaIndY _ => true
  | .txa | .tya | .aslAcc | .lsrAcc | .rolAcc | .rorAcc => true
  | .andImm _ | .andZp _ | .andZpX _ | .andAbs _ | .andAbsX _ | .andAbsY _ | .andIndX _ | .andIndY _ => true
  | .oraImm _ | .oraZp _ | .oraZpX _ | .oraAbs _ | .oraAbsX _ | .oraAbsY _ | .oraIndX _ | .oraIndY _ => true
  | .eorImm _ | .eorZp _ | .eorZpX _ | .eorAbs _ | .eorAbsX _ | .eorAbsY _ | .eorIndX _ | .eorIndY _ => true
  | i => isAddSubtract i

/-- The instructions that write X: LDX, TAX, INX, DEX. -/
def writesX : Instr → Bool
  | .ldxImm _ | .ldxZp _ | .ldxZpY _ | .ldxAbs _ | .ldxAbsY _ | .tax | .inx | .dex => true
  | _ => false

/-- The instructions that write Y: LDY, TAY, INY, DEY. -/
def writesY : Instr → Bool
  | .ldyImm _ | .ldyZp _ | .ldyZpX _ | .ldyAbs _ | .ldyAbsX _ | .tay | .iny | .dey => true
  | _ => false

/-- JMP and the branches: the instructions after which PC need not be the next sequential instruction. -/
def transfersControl : Instr → Bool
  | .jmpAbs _ | .jmpInd _ => true
  | .bpl _ | .bmi _ | .bvc _ | .bvs _ | .bcc _ | .bcs _ | .bne _ | .beq _ => true
  | _ => false

end Sys2Proof.Claims

open Sys2Proof.Claims

/-! ## Construction, reset, boot -/

/-- R440: construction succeeds under either OPCODE_SET, sets every field and makes no bus access; a table that fails
its check is refused. -/
def Obligations.ConstructionSetsEveryField : Prop :=
  (∀ (table : List TableRow) (initial : State) (op : Byte) (check : TableCheck),
    failedTableCheck table = some (op, check) →
    constructFrom table initial = .refused (.invariantViolation op check)) ∧
  ∀ (set : OpcodeSet) (regs : ResetRegs) (devices : List Device),
    construct set regs devices =
      .next {
        pc := 0xFFFC, queue := [.fetchAddrLo, .fetchAddrHi, .jumpToAddress], halted := false, fault := none,
        cycles := 0, a := regs.a, x := regs.x, y := regs.y, flagN := regs.flagN, flagV := regs.flagV,
        flagD := regs.flagD, flagI := regs.flagI, flagZ := regs.flagZ, flagC := regs.flagC,
        ia := regs.internalAddress, io := regs.internalOperand,
        devices := devices, opcodeSet := set, resetRegs := regs }

/-- The model's reset state, every field: the values the spec gives (R443: PC, Q, halted, fault, cycles), and the
model's choices: RESET_REGS all zero, with it A, X, Y, the six flags, IA and IO (log 1); DEVICES one Memory over the
whole address space with nothing written, so that every byte reads 0 (log 2); OPCODE_SET COMPLETED (log 3). -/
def Obligations.ResetStateFields : Prop :=
  State.reset =
    { pc := 0xFFFC, queue := [.fetchAddrLo, .fetchAddrHi, .jumpToAddress], halted := false, fault := none, cycles := 0,
      a := 0x00, x := 0x00, y := 0x00, flagN := false, flagV := false, flagD := false, flagI := false,
      flagZ := false, flagC := false, ia := 0x0000, io := 0x00,
      devices := [.memory { lower := 0x0000, upper := 0xFFFF, cells := [] }], opcodeSet := .completed,
      resetRegs :=
        { a := 0x00, x := 0x00, y := 0x00, flagN := false, flagV := false, flagD := false, flagI := false,
          flagZ := false, flagC := false, internalAddress := 0x0000, internalOperand := 0x00 } } ∧
  ∀ addr : Addr, State.reset.peek addr = 0x00

/-- R441: the first three ticks read the little-endian reset vector and jump PC to it; what each tick returns, and
that nothing but PC, IA, Q, cycles and the devices' own read effects changes. -/
def Obligations.BootReadsResetVector : Prop :=
  ∀ (set : OpcodeSet) (regs : ResetRegs) (devices : List Device),
    let s := State.constructed set regs devices
    let low := (busRead devices 0xFFFC).1
    let afterLow := (busRead devices 0xFFFC).2
    let high := (busRead afterLow 0xFFFD).1
    let afterHigh := (busRead afterLow 0xFFFD).2
    let s1 := { s with ia := addrOf 0x00 low, pc := 0xFFFD, cycles := 1, devices := afterLow,
                       queue := [.fetchAddrHi, .jumpToAddress] }
    let s2 := { s with ia := addrOf high low, pc := 0xFFFE, cycles := 2, devices := afterHigh,
                       queue := [.jumpToAddress] }
    let s3 := { s with ia := addrOf high low, pc := addrOf high low, cycles := 3, devices := afterHigh, queue := [] }
    tick s = .next s1 ∧ s1.tickReturn = (0xFFFD, false) ∧
    tick s1 = .next s2 ∧ s2.tickReturn = (0xFFFE, false) ∧
    tick s2 = .next s3 ∧ s3.tickReturn = (addrOf high low, false)

/-- R442: reset re-primes Q, PC and the registers and clears halted; cycles, the fault, the parameters (with them the
Instruction Table) and every device are unchanged. -/
def Obligations.ResetKeepsCyclesFaultAndDevices : Prop :=
  ∀ s : State,
    s.resetCore =
      { s with
        queue := [.fetchAddrLo, .fetchAddrHi, .jumpToAddress], pc := 0xFFFC, halted := false,
        a := s.resetRegs.a, x := s.resetRegs.x, y := s.resetRegs.y, flagN := s.resetRegs.flagN,
        flagV := s.resetRegs.flagV, flagD := s.resetRegs.flagD, flagI := s.resetRegs.flagI,
        flagZ := s.resetRegs.flagZ, flagC := s.resetRegs.flagC, ia := s.resetRegs.internalAddress,
        io := s.resetRegs.internalOperand }

/-- R450: `get_user_cycles()` is `max(0, cycles - 3)`. -/
def Obligations.UserCyclesSubtractBoot : Prop :=
  ∀ s : State, (s.userCycles : Int) = max 0 ((s.cycles : Int) - 3)

/-! ## The tick -/

/-- R405: a tick while halted or faulted is refused with TickAfterStop; a refusal carries no state, so nothing
changes. -/
def Obligations.StoppedCoreRefusesTicks : Prop :=
  ∀ s : State, (s.halted = true ∨ s.fault ≠ none) → tick s = .refused .tickAfterStop

/-- R420's increment: an accepted tick counts exactly one cycle, a tick that faults included, and only a stopped core
refuses. -/
def Obligations.AcceptedTickCountsOneCycle : Prop :=
  ∀ s : State,
    (∀ t, stateAfter (tick s) = some t → t.cycles = s.cycles + 1) ∧
    (stateAfter (tick s) = none ↔ s.stopped = true)

/-- R144: between instructions a tick reads the byte at PC, advances PC by 1 and enqueues the entry's expansion; no
other register and no flag changes. A byte not in the table raises DecodeError with the byte and its address. -/
def Obligations.FetchOpcodeEnqueuesExpansion : Prop :=
  ∀ s : State, s.idle →
    (∀ e : Entry, tableEntry s.opcodeSet (s.peek s.pc) = some e →
      tick s = .next { s with pc := s.pc + 1, cycles := s.cycles + 1, queue := e.expansion,
                              devices := (busRead s.devices s.pc).2 }) ∧
    (tableEntry s.opcodeSet (s.peek s.pc) = none → ∃ after, tick s = .fault (.decodeError (s.peek s.pc) s.pc after))

/-- R145 on a platform of Memories: a byte not in the table raises DecodeError, with the record of the byte and its
address; PC is past the opcode, Q is empty, and the registers, the flags, IA, IO, halted and every device are as before
the tick. Every later tick is refused. -/
def Obligations.DecodeErrorOnUnpopulatedOpcode : Prop :=
  ∀ s : State, s.idle → s.memoryOnly → tableEntry s.opcodeSet (s.peek s.pc) = none →
    let after := { s with pc := s.pc + 1, cycles := s.cycles + 1, queue := [],
                          fault := some (.decodeError (s.peek s.pc) s.pc) }
    tick s = .fault (.decodeError (s.peek s.pc) s.pc after) ∧ tick after = .refused .tickAfterStop

/-- DecodeError whatever devices are on the bus: a tick raises it on a byte not in the table, having done nothing but
its opcode read and PC increment (R406). The devices are as that read leaves them (R81), the model's reading of R401
(log 15): where the read has no effect they are as before the tick. A step does the same as the tick (the model's choice
of step, log 4), and no tick that executes another micro-op than FetchOpcode raises DecodeError. -/
def Obligations.DecodeErrorOnAnyBus : Prop :=
  (∀ s : State, s.idle → tableEntry s.opcodeSet (s.peek s.pc) = none →
    let after := { s with pc := s.pc + 1, cycles := s.cycles + 1, queue := [], devices := (busRead s.devices s.pc).2,
                          fault := some (.decodeError (s.peek s.pc) s.pc) }
    tick s = .fault (.decodeError (s.peek s.pc) s.pc after) ∧
    step s = .fault (.decodeError (s.peek s.pc) s.pc after)) ∧
  ∀ (s after : State) (op : Byte) (addr : Addr), tick s = .fault (.decodeError op addr after) →
    (s.queue = [] ∨ ∃ rest, s.queue = .fetchOpcode :: rest) ∧
    op = s.peek s.pc ∧ addr = s.pc ∧ tableEntry s.opcodeSet op = none

/-- R402 and R198 as the model reads them (logs 7 and 8): a dequeued micro-op without a meaning faults before any
effect, and the state is as before but for cycles and the fault. -/
def Obligations.IllFormedMicroOpFaults : Prop :=
  ∀ (s : State) (u : MicroOp) (rest : List MicroOp), s.stopped = false → s.queue = u :: rest → u.wf = false →
    tick s = .fault (.unimplementedOperation u s.pc
      { s with cycles := s.cycles + 1, fault := some (.unimplementedOperation u s.pc) })

/-- R160: FetchAddrLo then FetchAddrHi assemble the address whatever IA held: bytes 0x34, 0x12 give 0x1234. -/
def Obligations.AddressAssemblyOverwrites : Prop :=
  ∀ (s : State) (rest : List MicroOp), s.stopped = false → s.queue = .fetchAddrLo :: .fetchAddrHi :: rest →
    (busRead s.devices s.pc).1 = 0x34 → (busRead (busRead s.devices s.pc).2 (s.pc + 1)).1 = 0x12 →
    ∃ t, tickRun 2 s = .next t ∧ t.ia = 0x1234 ∧ t.pc = s.pc + 2 ∧ t.queue = rest

/-- R153 and R154 in numbers: with wrap = ZeroPage the index is added to the low byte without carry into the high
byte, with wrap = Full across 16 bits; nothing but IA, Q and cycles changes. -/
def Obligations.AddressIndexingWraps : Prop :=
  ∀ (s : State) (r : Reg8) (rest : List MicroOp), s.stopped = false → r = .x ∨ r = .y →
    (s.queue = .incrementAddressByReg r .zeroPage :: rest →
      tick s = .next { s with
        ia := BitVec.ofNat 16 (s.ia.toNat / 256 * 256 + (s.ia.toNat + (s.getReg r).toNat) % 256),
        queue := rest, cycles := s.cycles + 1 }) ∧
    (s.queue = .incrementAddressByReg r .full :: rest →
      tick s = .next { s with
        ia := BitVec.ofNat 16 ((s.ia.toNat + (s.getReg r).toNat) % 65536),
        queue := rest, cycles := s.cycles + 1 })

/-! ## Encoding -/

/-- Decode and encode agree: every instruction an OPCODE_SET populates, with every operand value and whatever bytes
follow. -/
def Obligations.DecodeOfEncodeIsInstruction : Prop :=
  ∀ (set : OpcodeSet) (i : Instr) (rest : List Byte), i.wf set = true →
    decodeIn set (encode i ++ rest) = .ok (i, rest)

/-- The other direction: bytes that decode are the encoding of what they decode to, which is populated. -/
def Obligations.EncodeOfDecodeIsBytes : Prop :=
  ∀ (set : OpcodeSet) (bytes rest : List Byte) (i : Instr),
    decodeIn set bytes = .ok (i, rest) → i.wf set = true ∧ bytes = encode i ++ rest

/-- The decoder and the Instruction Table populate the same opcode bytes, and the decoder's length is R101's: one byte
and one for each micro-op of the expansion that consumes an instruction-stream byte. R127's counts: 114 bytes are
unpopulated under COMPLETED, 251 under SHOWN. -/
def Obligations.DecoderAgreesWithInstructionTable : Prop :=
  (∀ (set : OpcodeSet) (op : Byte),
    (opcodeLookup set op).map Build.length =
      (tableEntry set op).map (fun e => 1 + (e.expansion.filter MicroOp.consumesStreamByte).length)) ∧
  ((List.range 256).filter (fun n => (opcodeLookup .completed (BitVec.ofNat 8 n)).isNone)).length = 114 ∧
  ((List.range 256).filter (fun n => (opcodeLookup .shown (BitVec.ofNat 8 n)).isNone)).length = 251

/-- Words written out from the spec's encodings decode to the instructions they stand for (one of each family). -/
def Obligations.SampleWordsDecode : Prop :=
  decodeTableWord 16 0x05A2 = some (.ldxImm 0x05) ∧ decodeTableWord 16 0x0195 = some (.staZpX 0x01) ∧
  decodeTableWord 24 0x20006D = some (.adcAbs 0x2000) ∧ decodeTableWord 16 0x40C1 = some (.cmpIndX 0x40) ∧
  decodeTableWord 16 0x7F06 = some (.aslZp 0x7F) ∧ decodeTableWord 8 0x6A = some .rorAcc ∧
  decodeTableWord 24 0x00306C = some (.jmpInd 0x0030) ∧ decodeTableWord 16 0xFAD0 = some (.bne 0xFA) ∧
  decodeTableWord 8 0x00 = some .brk ∧ decodeTableWord 8 0x38 = some .sec ∧ decodeTableWord 8 0x48 = none

/-- R106: a table is accepted exactly when no opcode has two rows and every micro-op of every expansion passes checks
(b), (c) and (d); any other is refused with InvariantViolation; both tables pass. -/
def Obligations.TableChecksDecideConstruction : Prop :=
  (∀ set, failedTableCheck (instructionTable set) = none) ∧
  ∀ (table : List TableRow) (s : State),
    let good := (table.map TableRow.opcode).Nodup ∧ ∀ r ∈ table, ∀ u ∈ r.entry.expansion, u.wf = true
    (good → constructFrom table s = .next s) ∧
    (¬ good → ∃ op check, constructFrom table s = .refused (.invariantViolation op check))

/-- R107 and R124: under SHOWN the table has exactly the source's five entries, with their expansions, and COMPLETED has
the same five. -/
def Obligations.ShownTableHasSourceEntries : Prop :=
  let ldx : Entry := ⟨"LDX", .immediate, [.fetchImmediateOperand, .storeToRegister .internalOperand .x]⟩
  let lda : Entry := ⟨"LDA", .immediate, [.fetchImmediateOperand, .storeToRegister .internalOperand .a]⟩
  let sta : Entry := ⟨"STA", .zeroPageX,
    [.fetchZeroPageAddr, .incrementAddressByReg .x .zeroPage, .writeToAddress .a .internalAddress]⟩
  (∀ op : Byte, tableEntry .shown op =
    if op = 0x00 then some ⟨"BRK", .implied, [.brk]⟩
    else if op = 0xA2 then some ldx
    else if op = 0xA9 then some lda
    else if op = 0x95 then some sta
    else if op = 0xEA then some ⟨"NOP", .implied, [.nop]⟩
    else none) ∧
  ∀ (op : Byte) (e : Entry), tableEntry .shown op = some e → tableEntry .completed op = some e

/-! ## The step -/

/-- Between instructions, when the bytes at PC decode to an instruction, a step is `exec` of it on the state whose
devices have made the instruction's own stream reads; on a platform of Memories that is the state itself. This is the
model's own choice of step: the spec's only step is the tick (R140), and the model takes a whole instruction (log 4),
with its operand bytes from the decoded instruction (log 10). -/
def Obligations.StepRunsDecodedInstruction : Prop :=
  ∀ (s : State) (i : Instr) (rest : List Byte), s.idle → decodeIn s.opcodeSet s.streamBytes = .ok (i, rest) →
    step s = exec i (s.afterFetch i.length) ∧ (s.memoryOnly → step s = exec i s)

/-- While micro-ops are pending, or the core has stopped, a step is a tick: the model's choice of step (log 4). -/
def Obligations.StepOfPendingOrStoppedIsTick : Prop :=
  ∀ s : State, (s.queue ≠ [] ∨ s.stopped = true) → step s = tick s

/-- The refinement: an instruction's step (the model's choice, log 4) is exactly its ticks, the spec's steps: one
FetchOpcode and then every micro-op of its expansion, whatever devices are on the bus. -/
def Obligations.StepIsInstructionsTicks : Prop :=
  ∀ (s : State) (i : Instr) (rest : List Byte), s.idle → decodeIn s.opcodeSet s.streamBytes = .ok (i, rest) →
    tickRun (Instr.ticks i) s = step s

/-- Every instruction completes in a next state, in every state: it has counted the ticks of its opcode (R161); it has
halted only if it is BRK; Q, the fault and the construction parameters are unchanged; and, jumps and branches apart, PC
is past its bytes. -/
def Obligations.EveryInstructionCompletes : Prop :=
  ∀ (i : Instr) (s : State), ∃ t, exec i s = .next t ∧ t.cycles = s.cycles + Instr.ticks i ∧
    (t.halted = true ↔ s.halted = true ∨ i = .brk) ∧
    t.queue = s.queue ∧ t.fault = s.fault ∧ t.opcodeSet = s.opcodeSet ∧ t.resetRegs = s.resetRegs ∧
    (transfersControl i = false → t.pc = s.pc + BitVec.ofNat 16 i.length)

/-! ## Invariants -/

/-- Construction on a platform of well-formed devices gives a state that meets the invariant; State.reset does. -/
def Obligations.ConstructionMeetsInvariant : Prop :=
  State.reset.Inv ∧
  ∀ (set : OpcodeSet) (regs : ResetRegs) (devices : List Device), (∀ d ∈ devices, d.wf = true) →
    (State.constructed set regs devices).Inv

/-- Every tick keeps the invariant: memory in canonical form, Q the boot sequence or the rest of one expansion. -/
def Obligations.TickKeepsInvariant : Prop :=
  ∀ s t : State, s.Inv → tick s = .next t → t.Inv

/-- Every step keeps the invariant. -/
def Obligations.StepKeepsInvariant : Prop :=
  ∀ s t : State, s.Inv → step s = .next t → t.Inv

/-- The host's operations keep the memory's canonical form (a bulk load and a bus write), and reset keeps the
invariant. -/
def Obligations.HostOperationsKeepInvariant : Prop :=
  (∀ s : State, s.Inv → s.resetCore.Inv) ∧
  (∀ (s : State) (addr : Addr) (v : Byte), s.Inv → (hostWrite addr v s).Inv) ∧
  (∀ (s t : State) (k : Nat) (start : Addr) (bytes : List Byte),
    s.Inv → bulkLoad k start bytes s = .next t → t.Inv) ∧
  (∀ (s t : State) (d : Device), s.Inv → register d s = .next t → t.Inv)

/-- R44: the queue's length never exceeds 6. -/
def Obligations.QueueLengthAtMostSix : Prop :=
  ∀ s : State, s.Inv → s.queue.length ≤ 6

/-- R60: no tick and no step changes the device list, contents apart, nor the construction parameters. -/
def Obligations.PlatformIsFixed : Prop :=
  ∀ s t : State, (tick s = .next t ∨ step s = .next t) →
    t.platform = s.platform ∧ t.opcodeSet = s.opcodeSet ∧ t.resetRegs = s.resetRegs

/-! ## The bus and Memory -/

/-- R63: the first readable device answers and only it is read; no readable device gives 0x00. -/
def Obligations.BusReadTakesFirstReadable : Prop :=
  (∀ (before after : List Device) (d : Device) (addr : Addr),
    (∀ e ∈ before, e.isReadableFor addr = false) → d.isReadableFor addr = true →
    busRead (before ++ d :: after) addr = ((d.doRead addr).1, before ++ (d.doRead addr).2 :: after)) ∧
  (∀ (devices : List Device) (addr : Addr), (∀ e ∈ devices, e.isReadableFor addr = false) →
    busRead devices addr = (0x00, devices))

/-- R66: a write reaches every writable device, in order, and no other; where there is none it is dropped. -/
def Obligations.BusWriteReachesEveryWritable : Prop :=
  (∀ (devices : List Device) (addr : Addr) (v : Byte),
    busWrite devices addr v = devices.map (fun d => if d.isWritableFor addr then d.doWrite addr v else d)) ∧
  (∀ (devices : List Device) (addr : Addr) (v : Byte), (∀ e ∈ devices, e.isWritableFor addr = false) →
    busWrite devices addr v = devices)

/-- R74: a Memory reads back the byte written to an address of its range; through the bus too, where the Memory is the
first readable device there once the write is made. -/
def Obligations.MemoryRoundTrip : Prop :=
  (∀ (m : Memory) (addr : Addr) (v : Byte), m.wf = true → m.covers addr = true → (m.write addr v).read addr = v) ∧
  ∀ (s : State) (before after : List Device) (m : Memory) (addr : Addr) (v : Byte),
    s.devices = before ++ .memory m :: after → m.wf = true → m.covers addr = true →
    (∀ e ∈ before, (if e.isWritableFor addr then e.doWrite addr v else e).isReadableFor addr = false) →
    (s.memWrite addr v).peek addr = v

/-- R81: on a platform of Memories a write changes what is read at its own address only, and a read changes
nothing. -/
def Obligations.MemoryWriteLeavesOtherAddresses : Prop :=
  ∀ (s : State) (addr other : Addr) (v : Byte), s.memoryOnly →
    (s.memRead addr).2 = s ∧ (other ≠ addr → (s.memWrite addr v).peek other = s.peek other)

/-- R72: a bulk load is refused exactly when it is not empty and leaves the range; an accepted one stores its bytes at
consecutive addresses and leaves every other byte. -/
def Obligations.BulkLoadStoresOrRefuses : Prop :=
  ∀ (m : Memory) (start : Addr) (bytes : List Byte), m.wf = true →
    (m.bulkLoad start bytes = none ↔
      bytes ≠ [] ∧ (start.toNat < m.lower.toNat ∨ m.upper.toNat < start.toNat + bytes.length - 1)) ∧
    ∀ m', m.bulkLoad start bytes = some m' → ∀ addr : Addr,
      m'.read addr =
        if start.toNat ≤ addr.toNat ∧ addr.toNat < start.toNat + bytes.length
        then bytes.getD (addr.toNat - start.toNat) 0 else m.read addr

/-! ## Effective addresses -/

/-- R111–R113: a zero-page form's prefix, and its address: in page zero, the index added without carry; nothing but IA
changes. -/
def Obligations.ZeroPageFormsStayInPageZero : Prop :=
  Mode.fetchOps .zeroPage = [.fetchZeroPageAddr] ∧
  Mode.fetchOps .zeroPageX = [.fetchZeroPageAddr, .incrementAddressByReg .x .zeroPage] ∧
  Mode.fetchOps .zeroPageY = [.fetchZeroPageAddr, .incrementAddressByReg .y .zeroPage] ∧
  ∀ (imm8 : Byte) (s : State),
    eaZeroPage imm8 s = { s with ia := BitVec.ofNat 16 imm8.toNat } ∧
    eaZeroPageX imm8 s = { s with ia := BitVec.ofNat 16 ((imm8.toNat + s.x.toNat) % 256) } ∧
    eaZeroPageY imm8 s = { s with ia := BitVec.ofNat 16 ((imm8.toNat + s.y.toNat) % 256) }

/-- R114–R116: an absolute form's prefix, and its address: the index added across 16 bits; nothing but IA changes. -/
def Obligations.AbsoluteFormsIndexAcrossPages : Prop :=
  Mode.fetchOps .absolute = [.fetchAddrLo, .fetchAddrHi] ∧
  Mode.fetchOps .absoluteX = [.fetchAddrLo, .fetchAddrHi, .incrementAddressByReg .x .full] ∧
  Mode.fetchOps .absoluteY = [.fetchAddrLo, .fetchAddrHi, .incrementAddressByReg .y .full] ∧
  ∀ (addr : Addr) (s : State),
    eaAbsolute addr s = { s with ia := addr } ∧
    eaAbsoluteX addr s = { s with ia := BitVec.ofNat 16 ((addr.toNat + s.x.toNat) % 65536) } ∧
    eaAbsoluteY addr s = { s with ia := BitVec.ofNat 16 ((addr.toNat + s.y.toNat) % 65536) }

/-- R117–R119, on any bus: a pointer form's prefix, and its address: the pointer's low byte is read at its address, then
its high byte at the next address of the same page; (zp,X) indexes before and (zp),Y after. IO is left holding the low
byte; the devices are as the two reads leave them; nothing else changes. -/
def Obligations.PointerFormsReadSamePage : Prop :=
  Mode.fetchOps .indirect = [.fetchAddrLo, .fetchAddrHi, .readAddressLo, .readAddressHi] ∧
  Mode.fetchOps .indexedIndirect =
    [.fetchZeroPageAddr, .incrementAddressByReg .x .zeroPage, .readAddressLo, .readAddressHi] ∧
  Mode.fetchOps .indirectIndexed =
    [.fetchZeroPageAddr, .readAddressLo, .readAddressHi, .incrementAddressByReg .y .full] ∧
  ∀ (imm8 : Byte) (addr : Addr) (s : State),
    let low := fun p : Nat => busRead s.devices (BitVec.ofNat 16 p)
    let high := fun p : Nat => busRead (low p).2 (BitVec.ofNat 16 (p / 256 * 256 + (p + 1) % 256))
    let found := fun p : Nat =>
      { s with ia := addrOf (high p).1 (low p).1, io := (low p).1, devices := (high p).2 }
    let indexed := found imm8.toNat
    eaIndirect addr s = found addr.toNat ∧
    eaIndexedIndirect imm8 s = found ((imm8.toNat + s.x.toNat) % 256) ∧
    eaIndirectIndexed imm8 s =
      { indexed with ia := BitVec.ofNat 16 ((indexed.ia.toNat + s.y.toNat) % 65536) }

/-- R110 and R157: imm8, or the byte the bus gives at IA, goes to IO; nothing else of the core changes. -/
def Obligations.OperandReadsGoToInternalOperand : Prop :=
  Mode.fetchOps .immediate = [.fetchImmediateOperand] ∧
  ∀ (imm8 : Byte) (s : State),
    immediate imm8 s = { s with io := imm8 } ∧
    readOperand s = { s with io := (busRead s.devices s.ia).1, devices := (busRead s.devices s.ia).2 }

/-! ## Results of the instructions, every form -/

/-- R230: LDA, every form: A <- M; setNZ(A). -/
def Obligations.LdaLoadsAccumulator : Prop :=
  EightWords .ldaImm .ldaZp .ldaZpX .ldaAbs .ldaAbsX .ldaAbsY .ldaIndX .ldaIndY
    0xA9 0xA5 0xB5 0xAD 0xBD 0xB9 0xA1 0xB1 ∧
  EightForms .ldaImm .ldaZp .ldaZpX .ldaAbs .ldaAbsX .ldaAbsY .ldaIndX .ldaIndY (fun u => setA u u.io)

/-- R231 and R232: LDX and LDY, every form; LDX indexes with Y, LDY with X. -/
def Obligations.LdxAndLdyLoadIndexRegisters : Prop :=
  LoadIndexWords .ldxImm .ldxZp .ldxZpY .ldxAbs .ldxAbsY 0xA2 0xA6 0xB6 0xAE 0xBE ∧
  LoadIndexWords .ldyImm .ldyZp .ldyZpX .ldyAbs .ldyAbsX 0xA0 0xA4 0xB4 0xAC 0xBC ∧
  ∀ (imm8 : Byte) (addr : Addr) (s : State),
    exec (.ldxImm imm8) s = .next (setX (immediate imm8 (s.advance 2 3)) imm8) ∧
    (let u := readOperand (eaZeroPage imm8 (s.advance 2 4)); exec (.ldxZp imm8) s = .next (setX u u.io)) ∧
    (let u := readOperand (eaZeroPageY imm8 (s.advance 2 5)); exec (.ldxZpY imm8) s = .next (setX u u.io)) ∧
    (let u := readOperand (eaAbsolute addr (s.advance 3 5)); exec (.ldxAbs addr) s = .next (setX u u.io)) ∧
    (let u := readOperand (eaAbsoluteY addr (s.advance 3 6)); exec (.ldxAbsY addr) s = .next (setX u u.io)) ∧
    exec (.ldyImm imm8) s = .next (setY (immediate imm8 (s.advance 2 3)) imm8) ∧
    (let u := readOperand (eaZeroPage imm8 (s.advance 2 4)); exec (.ldyZp imm8) s = .next (setY u u.io)) ∧
    (let u := readOperand (eaZeroPageX imm8 (s.advance 2 5)); exec (.ldyZpX imm8) s = .next (setY u u.io)) ∧
    (let u := readOperand (eaAbsolute addr (s.advance 3 5)); exec (.ldyAbs addr) s = .next (setY u u.io)) ∧
    (let u := readOperand (eaAbsoluteX addr (s.advance 3 6)); exec (.ldyAbsX addr) s = .next (setY u u.io))

/-- R233–R235: STA, STX and STY, every form: one bus write of the register to EA, no flag and no other register. -/
def Obligations.StoresWriteRegisterToMemory : Prop :=
  (∀ (imm8 : Byte) (addr : Addr),
    encode (.staZp imm8) = [0x85, imm8] ∧ encode (.staZpX imm8) = [0x95, imm8] ∧
    encode (.staAbs addr) = [0x8D, loByte addr, hiByte addr] ∧ encode (.staAbsX addr) = [0x9D, loByte addr, hiByte addr] ∧
    encode (.staAbsY addr) = [0x99, loByte addr, hiByte addr] ∧ encode (.staIndX imm8) = [0x81, imm8] ∧
    encode (.staIndY imm8) = [0x91, imm8] ∧ encode (.stxZp imm8) = [0x86, imm8] ∧
    encode (.stxZpY imm8) = [0x96, imm8] ∧ encode (.stxAbs addr) = [0x8E, loByte addr, hiByte addr] ∧
    encode (.styZp imm8) = [0x84, imm8] ∧ encode (.styZpX imm8) = [0x94, imm8] ∧
    encode (.styAbs addr) = [0x8C, loByte addr, hiByte addr]) ∧
  ∀ (imm8 : Byte) (addr : Addr) (s : State),
    let stored := fun (u : State) (v : Byte) =>
      (.next { u with devices := busWrite u.devices u.ia v } : Host.Outcome State Fault Refusal)
    exec (.staZp imm8) s = stored (eaZeroPage imm8 (s.advance 2 3)) s.a ∧
    exec (.staZpX imm8) s = stored (eaZeroPageX imm8 (s.advance 2 4)) s.a ∧
    exec (.staAbs addr) s = stored (eaAbsolute addr (s.advance 3 4)) s.a ∧
    exec (.staAbsX addr) s = stored (eaAbsoluteX addr (s.advance 3 5)) s.a ∧
    exec (.staAbsY addr) s = stored (eaAbsoluteY addr (s.advance 3 5)) s.a ∧
    exec (.staIndX imm8) s = stored (eaIndexedIndirect imm8 (s.advance 2 6)) s.a ∧
    exec (.staIndY imm8) s = stored (eaIndirectIndexed imm8 (s.advance 2 6)) s.a ∧
    exec (.stxZp imm8) s = stored (eaZeroPage imm8 (s.advance 2 3)) s.x ∧
    exec (.stxZpY imm8) s = stored (eaZeroPageY imm8 (s.advance 2 4)) s.x ∧
    exec (.stxAbs addr) s = stored (eaAbsolute addr (s.advance 3 4)) s.x ∧
    exec (.styZp imm8) s = stored (eaZeroPage imm8 (s.advance 2 3)) s.y ∧
    exec (.styZpX imm8) s = stored (eaZeroPageX imm8 (s.advance 2 4)) s.y ∧
    exec (.styAbs addr) s = stored (eaAbsolute addr (s.advance 3 4)) s.y

/-- R236–R239: the four transfers copy a register and set N and Z from it. -/
def Obligations.TransfersCopyRegister : Prop :=
  encode .tax = [0xAA] ∧ encode .tay = [0xA8] ∧ encode .txa = [0x8A] ∧ encode .tya = [0x98] ∧
  ∀ s : State,
    exec .tax s = .next (setX (s.advance 1 2) s.a) ∧ exec .tay s = .next (setY (s.advance 1 2) s.a) ∧
    exec .txa s = .next (setA (s.advance 1 2) s.x) ∧ exec .tya s = .next (setA (s.advance 1 2) s.y)

/-- R260 and R271: ADC, every form, in integers: A is the sum mod 256, C the unsigned carry-out, V signed overflow,
whatever D holds. -/
def Obligations.AdcAddsWithCarry : Prop :=
  EightWords .adcImm .adcZp .adcZpX .adcAbs .adcAbsX .adcAbsY .adcIndX .adcIndY
    0x69 0x65 0x75 0x6D 0x7D 0x79 0x61 0x71 ∧
  EightForms .adcImm .adcZp .adcZpX .adcAbs .adcAbsX .adcAbsY .adcIndX .adcIndY added

/-- R261 and R271: SBC, every form, in integers: A − M − (1 − C) mod 256, C no borrow, V signed overflow. -/
def Obligations.SbcSubtractsWithBorrow : Prop :=
  EightWords .sbcImm .sbcZp .sbcZpX .sbcAbs .sbcAbsX .sbcAbsY .sbcIndX .sbcIndY
    0xE9 0xE5 0xF5 0xED 0xFD 0xF9 0xE1 0xF1 ∧
  EightForms .sbcImm .sbcZp .sbcZpX .sbcAbs .sbcAbsX .sbcAbsY .sbcIndX .sbcIndY subtracted

/-- R262–R264: AND, ORA and EOR, every form; C and V are unchanged. -/
def Obligations.LogicOperationsKeepCarryAndOverflow : Prop :=
  EightWords .andImm .andZp .andZpX .andAbs .andAbsX .andAbsY .andIndX .andIndY
    0x29 0x25 0x35 0x2D 0x3D 0x39 0x21 0x31 ∧
  EightForms .andImm .andZp .andZpX .andAbs .andAbsX .andAbsY .andIndX .andIndY (fun u => setA u (u.a &&& u.io)) ∧
  EightWords .oraImm .oraZp .oraZpX .oraAbs .oraAbsX .oraAbsY .oraIndX .oraIndY
    0x09 0x05 0x15 0x0D 0x1D 0x19 0x01 0x11 ∧
  EightForms .oraImm .oraZp .oraZpX .oraAbs .oraAbsX .oraAbsY .oraIndX .oraIndY (fun u => setA u (u.a ||| u.io)) ∧
  EightWords .eorImm .eorZp .eorZpX .eorAbs .eorAbsX .eorAbsY .eorIndX .eorIndY
    0x49 0x45 0x55 0x4D 0x5D 0x59 0x41 0x51 ∧
  EightForms .eorImm .eorZp .eorZpX .eorAbs .eorAbsX .eorAbsY .eorIndX .eorIndY (fun u => setA u (u.a ^^^ u.io))

/-- R265–R267: CMP, CPX and CPY, every form: flags only, Z exactly when equal, C exactly when the register is not
less. -/
def Obligations.ComparesSetFlagsOnly : Prop :=
  EightWords .cmpImm .cmpZp .cmpZpX .cmpAbs .cmpAbsX .cmpAbsY .cmpIndX .cmpIndY
    0xC9 0xC5 0xD5 0xCD 0xDD 0xD9 0xC1 0xD1 ∧
  EightForms .cmpImm .cmpZp .cmpZpX .cmpAbs .cmpAbsX .cmpAbsY .cmpIndX .cmpIndY (fun u => compared u u.a u.io) ∧
  ∀ (imm8 : Byte) (addr : Addr) (s : State),
    encode (.cpxImm imm8) = [0xE0, imm8] ∧ encode (.cpxZp imm8) = [0xE4, imm8] ∧
    encode (.cpxAbs addr) = [0xEC, loByte addr, hiByte addr] ∧ encode (.cpyImm imm8) = [0xC0, imm8] ∧
    encode (.cpyZp imm8) = [0xC4, imm8] ∧ encode (.cpyAbs addr) = [0xCC, loByte addr, hiByte addr] ∧
    (let u := immediate imm8 (s.advance 2 3); exec (.cpxImm imm8) s = .next (compared u u.x u.io)) ∧
    (let u := readOperand (eaZeroPage imm8 (s.advance 2 4)); exec (.cpxZp imm8) s = .next (compared u u.x u.io)) ∧
    (let u := readOperand (eaAbsolute addr (s.advance 3 5)); exec (.cpxAbs addr) s = .next (compared u u.x u.io)) ∧
    (let u := immediate imm8 (s.advance 2 3); exec (.cpyImm imm8) s = .next (compared u u.y u.io)) ∧
    (let u := readOperand (eaZeroPage imm8 (s.advance 2 4)); exec (.cpyZp imm8) s = .next (compared u u.y u.io)) ∧
    (let u := readOperand (eaAbsolute addr (s.advance 3 5)); exec (.cpyAbs addr) s = .next (compared u u.y u.io))

/-- R268: BIT, both forms: N and V copy bits 7 and 6 of the operand, Z is of A & M; A and C unchanged. -/
def Obligations.BitTestsOperandBits : Prop :=
  ∀ (imm8 : Byte) (addr : Addr) (s : State),
    let tested := fun (u : State) =>
      (.next { u with flagN := u.io.getLsbD 7, flagV := u.io.getLsbD 6, flagZ := decide (u.a &&& u.io = 0) } :
        Host.Outcome State Fault Refusal)
    encode (.bitZp imm8) = [0x24, imm8] ∧ encode (.bitAbs addr) = [0x2C, loByte addr, hiByte addr] ∧
    exec (.bitZp imm8) s = tested (readOperand (eaZeroPage imm8 (s.advance 2 4))) ∧
    exec (.bitAbs addr) s = tested (readOperand (eaAbsolute addr (s.advance 3 5)))

/-- R290–R293, in numbers, on memory and on the accumulator: ASL doubles, LSR halves, ROL and ROR bring the old C in; C
takes the bit shifted out. A memory form ends in one write of the result to EA; an accumulator form makes no bus access
after the opcode fetch. -/
def Obligations.ShiftsAndRotates : Prop :=
  ModifyWords .aslZp .aslZpX .aslAbs .aslAbsX 0x06 0x16 0x0E 0x1E ∧
  ModifyForms .aslZp .aslZpX .aslAbs .aslAbsX
    (fun u => writtenBack u (BitVec.ofNat 8 (2 * u.io.toNat)) (decide (128 ≤ u.io.toNat))) ∧
  ModifyWords .lsrZp .lsrZpX .lsrAbs .lsrAbsX 0x46 0x56 0x4E 0x5E ∧
  ModifyForms .lsrZp .lsrZpX .lsrAbs .lsrAbsX
    (fun u => writtenBack u (BitVec.ofNat 8 (u.io.toNat / 2)) (decide (u.io.toNat % 2 = 1))) ∧
  ModifyWords .rolZp .rolZpX .rolAbs .rolAbsX 0x26 0x36 0x2E 0x3E ∧
  ModifyForms .rolZp .rolZpX .rolAbs .rolAbsX
    (fun u => writtenBack u (BitVec.ofNat 8 (2 * u.io.toNat + carryNat u)) (decide (128 ≤ u.io.toNat))) ∧
  ModifyWords .rorZp .rorZpX .rorAbs .rorAbsX 0x66 0x76 0x6E 0x7E ∧
  ModifyForms .rorZp .rorZpX .rorAbs .rorAbsX
    (fun u => writtenBack u (BitVec.ofNat 8 (u.io.toNat / 2 + 128 * carryNat u)) (decide (u.io.toNat % 2 = 1))) ∧
  encode .aslAcc = [0x0A] ∧ encode .lsrAcc = [0x4A] ∧ encode .rolAcc = [0x2A] ∧ encode .rorAcc = [0x6A] ∧
  ∀ s : State,
    let u := s.advance 1 2
    exec .aslAcc s = .next { setA u (BitVec.ofNat 8 (2 * s.a.toNat)) with flagC := decide (128 ≤ s.a.toNat) } ∧
    exec .lsrAcc s = .next { setA u (BitVec.ofNat 8 (s.a.toNat / 2)) with flagC := decide (s.a.toNat % 2 = 1) } ∧
    exec .rolAcc s =
      .next { setA u (BitVec.ofNat 8 (2 * s.a.toNat + carryNat s)) with flagC := decide (128 ≤ s.a.toNat) } ∧
    exec .rorAcc s =
      .next { setA u (BitVec.ofNat 8 (s.a.toNat / 2 + 128 * carryNat s)) with flagC := decide (s.a.toNat % 2 = 1) }

/-- R294 and R295: INC and DEC, every form: one read, one write of the result; C and V unchanged. -/
def Obligations.MemoryIncrementAndDecrement : Prop :=
  ModifyWords .incZp .incZpX .incAbs .incAbsX 0xE6 0xF6 0xEE 0xFE ∧
  ModifyForms .incZp .incZpX .incAbs .incAbsX (fun u => writtenBack u (u.io + 1) u.flagC) ∧
  ModifyWords .decZp .decZpX .decAbs .decAbsX 0xC6 0xD6 0xCE 0xDE ∧
  ModifyForms .decZp .decZpX .decAbs .decAbsX (fun u => writtenBack u (u.io - 1) u.flagC)

/-- R296–R299: INX, INY, DEX, DEY: the register mod 256, N and Z; C and V unchanged. -/
def Obligations.RegisterIncrementAndDecrement : Prop :=
  encode .inx = [0xE8] ∧ encode .iny = [0xC8] ∧ encode .dex = [0xCA] ∧ encode .dey = [0x88] ∧
  ∀ s : State,
    exec .inx s = .next (setX (s.advance 1 2) (s.x + 1)) ∧ exec .iny s = .next (setY (s.advance 1 2) (s.y + 1)) ∧
    exec .dex s = .next (setX (s.advance 1 2) (s.x - 1)) ∧ exec .dey s = .next (setY (s.advance 1 2) (s.y - 1))

/-- R320: JMP absolute and indirect set PC to the effective address; no flag. -/
def Obligations.JumpsSetPC : Prop :=
  ∀ (addr : Addr) (s : State),
    encode (.jmpAbs addr) = [0x4C, loByte addr, hiByte addr] ∧
    encode (.jmpInd addr) = [0x6C, loByte addr, hiByte addr] ∧
    exec (.jmpAbs addr) s = .next { s with pc := addr, ia := addr, cycles := s.cycles + 4 } ∧
    (let u := eaIndirect addr (s.advance 3 6); exec (.jmpInd addr) s = .next { u with pc := u.ia })

/-- R321–R328: the eight branches, in integers: taken exactly on their condition, to addr + 2 + displacement mod
2^16, else to the next instruction; no flag. -/
def Obligations.BranchesTestTheirFlag : Prop :=
  BranchForm 0x10 .bpl State.flagN false ∧ BranchForm 0x30 .bmi State.flagN true ∧
  BranchForm 0x50 .bvc State.flagV false ∧ BranchForm 0x70 .bvs State.flagV true ∧
  BranchForm 0x90 .bcc State.flagC false ∧ BranchForm 0xB0 .bcs State.flagC true ∧
  BranchForm 0xD0 .bne State.flagZ false ∧ BranchForm 0xF0 .beq State.flagZ true

/-- R329 and R330: BRK sets halted and nothing else, and a further tick is refused; NOP does nothing; PC is past the
opcode, two ticks each. -/
def Obligations.BrkHaltsAndNopDoesNothing : Prop :=
  encode .brk = [0x00] ∧ encode .nop = [0xEA] ∧
  ∀ s : State,
    exec .brk s = .next { s with halted := true, pc := s.pc + 1, cycles := s.cycles + 2 } ∧
    tick { s with halted := true, pc := s.pc + 1, cycles := s.cycles + 2 } = .refused .tickAfterStop ∧
    exec .nop s = .next { s with pc := s.pc + 1, cycles := s.cycles + 2 }

/-- R331–R337: each flag instruction writes its flag and nothing else. -/
def Obligations.FlagInstructionsWriteOneFlag : Prop :=
  encode .clc = [0x18] ∧ encode .sec = [0x38] ∧ encode .cli = [0x58] ∧ encode .sei = [0x78] ∧
  encode .clv = [0xB8] ∧ encode .cld = [0xD8] ∧ encode .sed = [0xF8] ∧
  ∀ s : State,
    let u := s.advance 1 2
    exec .clc s = .next { u with flagC := false } ∧ exec .sec s = .next { u with flagC := true } ∧
    exec .cli s = .next { u with flagI := false } ∧ exec .sei s = .next { u with flagI := true } ∧
    exec .clv s = .next { u with flagV := false } ∧ exec .cld s = .next { u with flagD := false } ∧
    exec .sed s = .next { u with flagD := true }

/-! ## Frames and whole-machine rules -/

/-- The memory frame of every instruction on a platform of Memories: every byte outside the address stored to reads as
before, and every byte for a form that stores nothing. -/
def Obligations.MemoryFrameOfEveryInstruction : Prop :=
  ∀ (i : Instr) (s t : State) (addr : Addr), s.memoryOnly →
    exec i s = .next t → (∀ ea, storeTarget i s = some ea → addr ≠ ea) → t.peek addr = s.peek addr

/-- The register frame: A, X and Y are unchanged by every instruction but those that write them. -/
def Obligations.RegisterFrameOfEveryInstruction : Prop :=
  ∀ (i : Instr) (s t : State), exec i s = .next t →
    (writesA i = false → t.a = s.a) ∧ (writesX i = false → t.x = s.x) ∧ (writesY i = false → t.y = s.y)

/-- R37: the flag frame: each flag is unchanged by every instruction but its writers. -/
def Obligations.FlagWritersAreTheTables : Prop :=
  ∀ (i : Instr) (s t : State), exec i s = .next t →
    (keepsNZ i = true → t.flagN = s.flagN ∧ t.flagZ = s.flagZ) ∧
    (isAddSubtract i = false → isBitTest i = false → i ≠ .clv → t.flagV = s.flagV) ∧
    (isAddSubtract i = false → isCompare i = false → isShift i = false → i ≠ .clc → i ≠ .sec → t.flagC = s.flagC) ∧
    (i ≠ .cli → i ≠ .sei → t.flagI = s.flagI) ∧ (i ≠ .cld → i ≠ .sed → t.flagD = s.flagD)

/-- D and I are storage only (R37): running an instruction with other values of them gives the same next state but for
those two flags. -/
def Obligations.DecimalAndInterruptFlagsAreStorage : Prop :=
  ∀ (i : Instr) (s t : State) (d n : Bool), exec i s = .next t →
    ∃ t', exec i { s with flagD := d, flagI := n } = .next t' ∧ { t' with flagD := t.flagD, flagI := t.flagI } = t

/-- R43: what IA and IO held before an instruction never reaches a program-visible result: two idle states that differ
only there step to states that differ only there; and where one step is a DecodeError, the other is a DecodeError of
the same opcode and address, with a state that differs only there. -/
def Obligations.StagingRegistersNeverReachResults : Prop :=
  ∀ (s : State) (ia : Addr) (io : Byte), s.idle →
    (∀ t : State, step s = .next t →
      ∃ t', step { s with ia := ia, io := io } = .next t' ∧ { t' with ia := t.ia, io := t.io } = t) ∧
    (∀ (op : Byte) (addr : Addr) (after : State), step s = .fault (.decodeError op addr after) →
      ∃ after', step { s with ia := ia, io := io } = .fault (.decodeError op addr after') ∧
        { after' with ia := after.ia, io := after.io } = after)

/-- R101's length law for every instruction, from the per-instruction lemmas: its encoding's length is one byte and one
for each micro-op of its expansion that consumes a stream byte. -/
def Obligations.EncodingLengthFollowsExpansion : Prop :=
  ∀ i : Instr, Sys2Proof.Laws.StreamLength.Statement i
end

