-- ==== Sys2Proof/Laws/Bytes.lean ====
section
/-! SUPPORT. The byte-order helpers in numbers, and that assembling and splitting an address undo each other. -/

namespace Sys2Proof

theorem addrOf_toNat (hi lo : Byte) : (addrOf hi lo).toNat = hi.toNat * 256 + lo.toNat := by
  have h : (addrOf hi lo).toNat = hi.toNat <<< 8 ||| lo.toNat := BitVec.toNat_append hi lo
  rw [h, ← Nat.shiftLeft_add_eq_or_of_lt lo.isLt, Nat.shiftLeft_eq]

theorem hiByte_toNat (v : Addr) : (hiByte v).toNat = v.toNat / 256 := by
  have := v.isLt
  simp only [hiByte, BitVec.extractLsb'_toNat, Nat.shiftRight_eq_div_pow]
  omega

theorem loByte_toNat (v : Addr) : (loByte v).toNat = v.toNat % 256 := by
  simp [loByte]

@[simp] theorem addrOf_hiByte_loByte (v : Addr) : addrOf (hiByte v) (loByte v) = v := by
  apply BitVec.eq_of_toNat_eq
  rw [addrOf_toNat, hiByte_toNat, loByte_toNat]
  omega

@[simp] theorem hiByte_addrOf (hi lo : Byte) : hiByte (addrOf hi lo) = hi := by
  apply BitVec.eq_of_toNat_eq
  rw [hiByte_toNat, addrOf_toNat]
  have := lo.isLt
  omega

@[simp] theorem loByte_addrOf (hi lo : Byte) : loByte (addrOf hi lo) = lo := by
  apply BitVec.eq_of_toNat_eq
  rw [loByte_toNat, addrOf_toNat]
  have := lo.isLt
  omega

/-- An address of page zero is its low byte. -/
theorem addrOf_zero (lo : Byte) : addrOf 0x00#8 lo = BitVec.ofNat 16 lo.toNat := by
  apply BitVec.eq_of_toNat_eq
  have := lo.isLt
  rw [addrOf_toNat, BitVec.toNat_ofNat]
  simp
  omega

end Sys2Proof
end

