-- ==== Sys2Proof/Laws/Memory.lean ====
section
/-! SUPPORT. Memory and the bus: a write is read back and leaves every other address, and every operation keeps the
canonical form (spec 20_memory R69–R72). -/

namespace Sys2Proof.Machine

/-! ## The cell list -/

theorem cellsRead_below {high : Nat} : ∀ {low : Nat} {cells : List Host.Cell} {k : Nat},
    cellsWf high low cells = true → k < low → cellsRead cells k = 0#8 := by
  intro low cells
  induction cells generalizing low with
  | nil => intro k _ _; rfl
  | cons c rest ih =>
    obtain ⟨key, v⟩ := c
    intro k hwf hk
    simp only [cellsWf, Bool.and_eq_true, decide_eq_true_eq] at hwf
    have hne : key ≠ k := by omega
    simp only [cellsRead, if_neg hne]
    exact ih hwf.2 (by omega)

/-- A read of the address just written gives the byte written. -/
theorem cellsRead_write_same {high : Nat} : ∀ {low : Nat} {cells : List Host.Cell} (k : Nat) (v : Byte),
    cellsWf high low cells = true → cellsRead (cellsWrite cells k v) k = v := by
  intro low cells
  induction cells generalizing low with
  | nil => intro k v _; by_cases hv : v = 0#8 <;> simp [cellsWrite, cellsRead, hv]
  | cons c rest ih =>
    obtain ⟨key, w⟩ := c
    intro k v hwf
    simp only [cellsWf, Bool.and_eq_true, decide_eq_true_eq] at hwf
    have hbelow : k ≤ key → cellsRead rest k = 0#8 := fun h => cellsRead_below hwf.2 (by omega)
    by_cases h1 : k < key
    · have hne : key ≠ k := by omega
      by_cases hv : v = 0#8 <;> simp [cellsWrite, cellsRead, h1, hv, hne, hbelow (by omega)]
    · by_cases h2 : k = key
      · subst h2
        by_cases hv : v = 0#8 <;> simp [cellsWrite, cellsRead, hv, hbelow (Nat.le_refl _)]
      · have hne : key ≠ k := by omega
        simp only [cellsWrite, if_neg h1, if_neg h2, cellsRead, if_neg hne]
        exact ih k v hwf.2

/-- A write leaves what every other address reads as. -/
theorem cellsRead_write_other : ∀ (cells : List Host.Cell) {k j : Nat} (v : Byte), j ≠ k →
    cellsRead (cellsWrite cells k v) j = cellsRead cells j := by
  intro cells
  induction cells with
  | nil => intro k j v h; by_cases hv : v = 0#8 <;> simp [cellsWrite, cellsRead, hv, Ne.symm h]
  | cons c rest ih =>
    obtain ⟨key, w⟩ := c
    intro k j v h
    by_cases h1 : k < key
    · by_cases hv : v = 0#8 <;> simp [cellsWrite, cellsRead, h1, hv, Ne.symm h]
    · by_cases h2 : k = key
      · subst h2
        by_cases hv : v = 0#8 <;> simp [cellsWrite, cellsRead, hv, Ne.symm h]
      · simp only [cellsWrite, if_neg h1, if_neg h2, cellsRead]
        split
        · rfl
        · exact ih v h

/-- A write inside the range keeps the canonical form. -/
theorem cellsWf_write {high : Nat} : ∀ {low : Nat} {cells : List Host.Cell} {k : Nat} (v : Byte),
    cellsWf high low cells = true → low ≤ k → k ≤ high → cellsWf high low (cellsWrite cells k v) = true := by
  intro low cells
  induction cells generalizing low with
  | nil => intro k v _ h1 h2; by_cases hv : v = 0#8 <;> simp [cellsWrite, cellsWf, hv, h1, h2]
  | cons c rest ih =>
    obtain ⟨key, w⟩ := c
    intro k v hwf hl hh
    have hwf' := hwf
    simp only [cellsWf, Bool.and_eq_true, decide_eq_true_eq, bne_iff_ne] at hwf'
    obtain ⟨⟨⟨h1, h2⟩, h3⟩, h4⟩ := hwf'
    have weaken : ∀ {lo : Nat}, lo ≤ key + 1 → cellsWf high lo rest = true := by
      intro lo hlo
      cases rest with
      | nil => rfl
      | cons d tail =>
        obtain ⟨dk, dv⟩ := d
        simp only [cellsWf, Bool.and_eq_true, decide_eq_true_eq] at h4 ⊢
        exact ⟨⟨⟨by omega, h4.1.1.2⟩, h4.1.2⟩, h4.2⟩
    by_cases hlt : k < key
    · by_cases hv : v = 0#8
      · simpa [cellsWrite, hlt, hv] using hwf
      · have : k + 1 ≤ key := hlt
        simp [cellsWrite, hlt, hv, cellsWf, hl, hh, this, h2, h3, h4]
    · by_cases heq : k = key
      · subst heq
        by_cases hv : v = 0#8
        · simp only [cellsWrite, hv, if_true, lt_irrefl, if_false]
          exact weaken (by omega)
        · simp [cellsWrite, hv, cellsWf, hl, hh, h4]
      · have : key + 1 ≤ k := by omega
        simp only [cellsWrite, if_neg hlt, if_neg heq, cellsWf, Bool.and_eq_true, decide_eq_true_eq, bne_iff_ne]
        exact ⟨⟨⟨h1, h2⟩, h3⟩, ih v h4 this hh⟩

/-! ## Memory devices -/

theorem Memory.covers_iff (m : Memory) (addr : Addr) :
    m.covers addr = true ↔ m.lower.toNat ≤ addr.toNat ∧ addr.toNat ≤ m.upper.toNat := by
  simp [Memory.covers]

theorem Memory.wf_iff (m : Memory) :
    m.wf = true ↔ m.lower.toNat ≤ m.upper.toNat ∧ cellsWf m.upper.toNat m.lower.toNat m.cells = true := by
  simp [Memory.wf]

@[simp] theorem Memory.write_lower (m : Memory) (addr : Addr) (v : Byte) : (m.write addr v).lower = m.lower := rfl
@[simp] theorem Memory.write_upper (m : Memory) (addr : Addr) (v : Byte) : (m.write addr v).upper = m.upper := rfl

@[simp] theorem Memory.write_covers (m : Memory) (addr other : Addr) (v : Byte) :
    (m.write addr v).covers other = m.covers other := rfl

theorem Memory.read_write_same {m : Memory} (h : m.wf = true) (addr : Addr) (v : Byte) :
    (m.write addr v).read addr = v :=
  cellsRead_write_same _ _ ((m.wf_iff.mp h).2)

theorem Memory.read_write_other (m : Memory) {addr other : Addr} (h : other ≠ addr) (v : Byte) :
    (m.write addr v).read other = m.read other :=
  cellsRead_write_other _ _ (fun e => h (BitVec.eq_of_toNat_eq e))

/-- A write the Memory's range takes keeps it well-formed. -/
theorem Memory.write_wf {m : Memory} (h : m.wf = true) {addr : Addr} (hc : m.covers addr = true) (v : Byte) :
    (m.write addr v).wf = true := by
  rw [Memory.wf_iff] at h ⊢
  rw [Memory.covers_iff] at hc
  exact ⟨h.1, cellsWf_write v h.2 hc.1 hc.2⟩

/-- A new Memory is well-formed. -/
theorem newMemory_wf {lower upper : Addr} {m : Memory} (h : newMemory lower upper = some m) : m.wf = true := by
  simp only [newMemory] at h
  split at h
  · cases h; simp_all [Memory.wf, cellsWf]
  · cases h

/-- The reset platform's Memory is well-formed. -/
theorem whole_wf : Memory.whole.wf = true := by decide

/-- Loading bytes that stay in the range keeps the canonical form and the range. -/
theorem Memory.load_wf : ∀ (bytes : List Byte) {m : Memory} {start : Addr}, m.wf = true →
    (bytes ≠ [] → m.lower.toNat ≤ start.toNat ∧ start.toNat + bytes.length - 1 ≤ m.upper.toNat) →
    (m.load start bytes).wf = true := by
  intro bytes
  induction bytes with
  | nil => intro m start h _; exact h
  | cons v rest ih =>
    intro m start h hr
    have hr' := hr (by simp)
    simp only [List.length_cons] at hr'
    have hc : m.covers start = true := (m.covers_iff start).mpr ⟨hr'.1, by omega⟩
    refine ih (Memory.write_wf h hc v) ?_
    intro hne
    have hlen : 0 < rest.length := List.length_pos_iff.mpr hne
    have hu := m.upper.isLt
    have : (start + 1#16).toNat = start.toNat + 1 := by
      rw [BitVec.toNat_add]; simp; omega
    simp only [Memory.write_lower, Memory.write_upper, this]
    omega

/-- An accepted bulk load keeps the canonical form (20_memory R72). -/
theorem Memory.bulkLoad_wf {m m' : Memory} {start : Addr} {bytes : List Byte} (h : m.wf = true)
    (hl : m.bulkLoad start bytes = some m') : m'.wf = true := by
  simp only [Memory.bulkLoad] at hl
  split at hl
  · cases hl; exact h
  · split at hl
    · next hr => cases hl; exact Memory.load_wf bytes h (fun _ => hr)
    · cases hl

/-! ## Devices and the bus -/

theorem Device.doRead_wf {d : Device} (h : d.wf = true) (addr : Addr) : (d.doRead addr).2.wf = true := by
  cases d with
  | memory m => exact h
  | other kind st => rfl

theorem Device.doWrite_wf {d : Device} (h : d.wf = true) {addr : Addr} (hw : d.isWritableFor addr = true) (v : Byte) :
    (d.doWrite addr v).wf = true := by
  cases d with
  | memory m => exact Memory.write_wf h hw v
  | other kind st => rfl

/-- A bus read keeps every device well-formed. -/
theorem busRead_wf : ∀ {devices : List Device} (addr : Addr), (∀ d ∈ devices, d.wf = true) →
    ∀ d ∈ (busRead devices addr).2, d.wf = true := by
  intro devices addr
  induction devices with
  | nil => intro _ d hd; cases hd
  | cons e rest ih =>
    intro h d hd
    have he := h e (by simp)
    have hrest := ih (fun d hd => h d (by simp [hd]))
    simp only [busRead] at hd
    split at hd
    · rcases List.mem_cons.mp hd with rfl | hd
      · exact Device.doRead_wf he addr
      · exact h d (by simp [hd])
    · rcases List.mem_cons.mp hd with rfl | hd
      · exact he
      · exact hrest d hd

/-- A bus write keeps every device well-formed. -/
theorem busWrite_wf : ∀ {devices : List Device} (addr : Addr) (v : Byte), (∀ d ∈ devices, d.wf = true) →
    ∀ d ∈ busWrite devices addr v, d.wf = true := by
  intro devices addr v
  induction devices with
  | nil => intro _ d hd; cases hd
  | cons e rest ih =>
    intro h d hd
    have he := h e (by simp)
    rcases List.mem_cons.mp hd with rfl | hd
    · split
      · next hw => exact Device.doWrite_wf he hw v
      · exact he
    · exact ih (fun d hd => h d (by simp [hd])) d hd

/-- A Memory's read leaves the device list as it is, so a bus of Memories is unchanged by a read. -/
theorem busRead_memories : ∀ {devices : List Device} (addr : Addr), (∀ d ∈ devices, ∃ m, d = .memory m) →
    (busRead devices addr).2 = devices := by
  intro devices addr
  induction devices with
  | nil => intro _; rfl
  | cons e rest ih =>
    intro h
    obtain ⟨m, rfl⟩ := h e (by simp)
    have hrest := ih (fun d hd => h d (by simp [hd]))
    simp only [busRead]
    split
    · rfl
    · simp [hrest]

end Sys2Proof.Machine
end

