-- ==== Sys2Proof/Laws/State.lean ====
section
/-! SUPPORT. One lemma per field for each primitive update of the state: what it writes, and every field it leaves. -/

namespace Sys2Proof.Machine

/-! ### setReg -/

@[simp] theorem State.setReg_pc (s : State) (r : Reg8) (v : Byte) : (s.setReg r v).pc = s.pc := by cases r <;> rfl
@[simp] theorem State.setReg_a (s : State) (r : Reg8) (v : Byte) : (s.setReg r v).a = if r = .a then v else s.a := by cases r <;> rfl
@[simp] theorem State.setReg_x (s : State) (r : Reg8) (v : Byte) : (s.setReg r v).x = if r = .x then v else s.x := by cases r <;> rfl
@[simp] theorem State.setReg_y (s : State) (r : Reg8) (v : Byte) : (s.setReg r v).y = if r = .y then v else s.y := by cases r <;> rfl
@[simp] theorem State.setReg_flagN (s : State) (r : Reg8) (v : Byte) : (s.setReg r v).flagN = s.flagN := by cases r <;> rfl
@[simp] theorem State.setReg_flagV (s : State) (r : Reg8) (v : Byte) : (s.setReg r v).flagV = s.flagV := by cases r <;> rfl
@[simp] theorem State.setReg_flagD (s : State) (r : Reg8) (v : Byte) : (s.setReg r v).flagD = s.flagD := by cases r <;> rfl
@[simp] theorem State.setReg_flagI (s : State) (r : Reg8) (v : Byte) : (s.setReg r v).flagI = s.flagI := by cases r <;> rfl
@[simp] theorem State.setReg_flagZ (s : State) (r : Reg8) (v : Byte) : (s.setReg r v).flagZ = s.flagZ := by cases r <;> rfl
@[simp] theorem State.setReg_flagC (s : State) (r : Reg8) (v : Byte) : (s.setReg r v).flagC = s.flagC := by cases r <;> rfl
@[simp] theorem State.setReg_ia (s : State) (r : Reg8) (v : Byte) : (s.setReg r v).ia = s.ia := by cases r <;> rfl
@[simp] theorem State.setReg_io (s : State) (r : Reg8) (v : Byte) : (s.setReg r v).io = if r = .internalOperand then v else s.io := by cases r <;> rfl
@[simp] theorem State.setReg_queue (s : State) (r : Reg8) (v : Byte) : (s.setReg r v).queue = s.queue := by cases r <;> rfl
@[simp] theorem State.setReg_halted (s : State) (r : Reg8) (v : Byte) : (s.setReg r v).halted = s.halted := by cases r <;> rfl
@[simp] theorem State.setReg_fault (s : State) (r : Reg8) (v : Byte) : (s.setReg r v).fault = s.fault := by cases r <;> rfl
@[simp] theorem State.setReg_cycles (s : State) (r : Reg8) (v : Byte) : (s.setReg r v).cycles = s.cycles := by cases r <;> rfl
@[simp] theorem State.setReg_devices (s : State) (r : Reg8) (v : Byte) : (s.setReg r v).devices = s.devices := by cases r <;> rfl
@[simp] theorem State.setReg_opcodeSet (s : State) (r : Reg8) (v : Byte) : (s.setReg r v).opcodeSet = s.opcodeSet := by cases r <;> rfl
@[simp] theorem State.setReg_resetRegs (s : State) (r : Reg8) (v : Byte) : (s.setReg r v).resetRegs = s.resetRegs := by cases r <;> rfl

/-! ### putFlag -/

@[simp] theorem State.putFlag_pc (s : State) (f : Flag) (b : Bool) : (s.putFlag f b).pc = s.pc := by cases f <;> rfl
@[simp] theorem State.putFlag_a (s : State) (f : Flag) (b : Bool) : (s.putFlag f b).a = s.a := by cases f <;> rfl
@[simp] theorem State.putFlag_x (s : State) (f : Flag) (b : Bool) : (s.putFlag f b).x = s.x := by cases f <;> rfl
@[simp] theorem State.putFlag_y (s : State) (f : Flag) (b : Bool) : (s.putFlag f b).y = s.y := by cases f <;> rfl
@[simp] theorem State.putFlag_flagN (s : State) (f : Flag) (b : Bool) : (s.putFlag f b).flagN = if f = .n then b else s.flagN := by cases f <;> rfl
@[simp] theorem State.putFlag_flagV (s : State) (f : Flag) (b : Bool) : (s.putFlag f b).flagV = if f = .v then b else s.flagV := by cases f <;> rfl
@[simp] theorem State.putFlag_flagD (s : State) (f : Flag) (b : Bool) : (s.putFlag f b).flagD = if f = .d then b else s.flagD := by cases f <;> rfl
@[simp] theorem State.putFlag_flagI (s : State) (f : Flag) (b : Bool) : (s.putFlag f b).flagI = if f = .i then b else s.flagI := by cases f <;> rfl
@[simp] theorem State.putFlag_flagZ (s : State) (f : Flag) (b : Bool) : (s.putFlag f b).flagZ = if f = .z then b else s.flagZ := by cases f <;> rfl
@[simp] theorem State.putFlag_flagC (s : State) (f : Flag) (b : Bool) : (s.putFlag f b).flagC = if f = .c then b else s.flagC := by cases f <;> rfl
@[simp] theorem State.putFlag_ia (s : State) (f : Flag) (b : Bool) : (s.putFlag f b).ia = s.ia := by cases f <;> rfl
@[simp] theorem State.putFlag_io (s : State) (f : Flag) (b : Bool) : (s.putFlag f b).io = s.io := by cases f <;> rfl
@[simp] theorem State.putFlag_queue (s : State) (f : Flag) (b : Bool) : (s.putFlag f b).queue = s.queue := by cases f <;> rfl
@[simp] theorem State.putFlag_halted (s : State) (f : Flag) (b : Bool) : (s.putFlag f b).halted = s.halted := by cases f <;> rfl
@[simp] theorem State.putFlag_fault (s : State) (f : Flag) (b : Bool) : (s.putFlag f b).fault = s.fault := by cases f <;> rfl
@[simp] theorem State.putFlag_cycles (s : State) (f : Flag) (b : Bool) : (s.putFlag f b).cycles = s.cycles := by cases f <;> rfl
@[simp] theorem State.putFlag_devices (s : State) (f : Flag) (b : Bool) : (s.putFlag f b).devices = s.devices := by cases f <;> rfl
@[simp] theorem State.putFlag_opcodeSet (s : State) (f : Flag) (b : Bool) : (s.putFlag f b).opcodeSet = s.opcodeSet := by cases f <;> rfl
@[simp] theorem State.putFlag_resetRegs (s : State) (f : Flag) (b : Bool) : (s.putFlag f b).resetRegs = s.resetRegs := by cases f <;> rfl

/-! ### setNZ -/

@[simp] theorem State.setNZ_pc (s : State) (v : Byte) : (s.setNZ v).pc = s.pc := rfl
@[simp] theorem State.setNZ_a (s : State) (v : Byte) : (s.setNZ v).a = s.a := rfl
@[simp] theorem State.setNZ_x (s : State) (v : Byte) : (s.setNZ v).x = s.x := rfl
@[simp] theorem State.setNZ_y (s : State) (v : Byte) : (s.setNZ v).y = s.y := rfl
@[simp] theorem State.setNZ_flagN (s : State) (v : Byte) : (s.setNZ v).flagN = v.getLsbD 7 := rfl
@[simp] theorem State.setNZ_flagV (s : State) (v : Byte) : (s.setNZ v).flagV = s.flagV := rfl
@[simp] theorem State.setNZ_flagD (s : State) (v : Byte) : (s.setNZ v).flagD = s.flagD := rfl
@[simp] theorem State.setNZ_flagI (s : State) (v : Byte) : (s.setNZ v).flagI = s.flagI := rfl
@[simp] theorem State.setNZ_flagZ (s : State) (v : Byte) : (s.setNZ v).flagZ = (v == 0x00#8) := rfl
@[simp] theorem State.setNZ_flagC (s : State) (v : Byte) : (s.setNZ v).flagC = s.flagC := rfl
@[simp] theorem State.setNZ_ia (s : State) (v : Byte) : (s.setNZ v).ia = s.ia := rfl
@[simp] theorem State.setNZ_io (s : State) (v : Byte) : (s.setNZ v).io = s.io := rfl
@[simp] theorem State.setNZ_queue (s : State) (v : Byte) : (s.setNZ v).queue = s.queue := rfl
@[simp] theorem State.setNZ_halted (s : State) (v : Byte) : (s.setNZ v).halted = s.halted := rfl
@[simp] theorem State.setNZ_fault (s : State) (v : Byte) : (s.setNZ v).fault = s.fault := rfl
@[simp] theorem State.setNZ_cycles (s : State) (v : Byte) : (s.setNZ v).cycles = s.cycles := rfl
@[simp] theorem State.setNZ_devices (s : State) (v : Byte) : (s.setNZ v).devices = s.devices := rfl
@[simp] theorem State.setNZ_opcodeSet (s : State) (v : Byte) : (s.setNZ v).opcodeSet = s.opcodeSet := rfl
@[simp] theorem State.setNZ_resetRegs (s : State) (v : Byte) : (s.setNZ v).resetRegs = s.resetRegs := rfl

/-! ### setCompareFlags -/

@[simp] theorem State.setCompareFlags_pc (s : State) (reg src : Byte) : (s.setCompareFlags reg src).pc = s.pc := rfl
@[simp] theorem State.setCompareFlags_a (s : State) (reg src : Byte) : (s.setCompareFlags reg src).a = s.a := rfl
@[simp] theorem State.setCompareFlags_x (s : State) (reg src : Byte) : (s.setCompareFlags reg src).x = s.x := rfl
@[simp] theorem State.setCompareFlags_y (s : State) (reg src : Byte) : (s.setCompareFlags reg src).y = s.y := rfl
@[simp] theorem State.setCompareFlags_flagN (s : State) (reg src : Byte) : (s.setCompareFlags reg src).flagN = (reg - src).getLsbD 7 := rfl
@[simp] theorem State.setCompareFlags_flagV (s : State) (reg src : Byte) : (s.setCompareFlags reg src).flagV = s.flagV := rfl
@[simp] theorem State.setCompareFlags_flagD (s : State) (reg src : Byte) : (s.setCompareFlags reg src).flagD = s.flagD := rfl
@[simp] theorem State.setCompareFlags_flagI (s : State) (reg src : Byte) : (s.setCompareFlags reg src).flagI = s.flagI := rfl
@[simp] theorem State.setCompareFlags_flagZ (s : State) (reg src : Byte) : (s.setCompareFlags reg src).flagZ = (reg - src == 0x00#8) := rfl
@[simp] theorem State.setCompareFlags_flagC (s : State) (reg src : Byte) : (s.setCompareFlags reg src).flagC = src.ule reg := rfl
@[simp] theorem State.setCompareFlags_ia (s : State) (reg src : Byte) : (s.setCompareFlags reg src).ia = s.ia := rfl
@[simp] theorem State.setCompareFlags_io (s : State) (reg src : Byte) : (s.setCompareFlags reg src).io = s.io := rfl
@[simp] theorem State.setCompareFlags_queue (s : State) (reg src : Byte) : (s.setCompareFlags reg src).queue = s.queue := rfl
@[simp] theorem State.setCompareFlags_halted (s : State) (reg src : Byte) : (s.setCompareFlags reg src).halted = s.halted := rfl
@[simp] theorem State.setCompareFlags_fault (s : State) (reg src : Byte) : (s.setCompareFlags reg src).fault = s.fault := rfl
@[simp] theorem State.setCompareFlags_cycles (s : State) (reg src : Byte) : (s.setCompareFlags reg src).cycles = s.cycles := rfl
@[simp] theorem State.setCompareFlags_devices (s : State) (reg src : Byte) : (s.setCompareFlags reg src).devices = s.devices := rfl
@[simp] theorem State.setCompareFlags_opcodeSet (s : State) (reg src : Byte) : (s.setCompareFlags reg src).opcodeSet = s.opcodeSet := rfl
@[simp] theorem State.setCompareFlags_resetRegs (s : State) (reg src : Byte) : (s.setCompareFlags reg src).resetRegs = s.resetRegs := rfl

/-! ### setBitFlags -/

@[simp] theorem State.setBitFlags_pc (s : State) (reg m : Byte) : (s.setBitFlags reg m).pc = s.pc := rfl
@[simp] theorem State.setBitFlags_a (s : State) (reg m : Byte) : (s.setBitFlags reg m).a = s.a := rfl
@[simp] theorem State.setBitFlags_x (s : State) (reg m : Byte) : (s.setBitFlags reg m).x = s.x := rfl
@[simp] theorem State.setBitFlags_y (s : State) (reg m : Byte) : (s.setBitFlags reg m).y = s.y := rfl
@[simp] theorem State.setBitFlags_flagN (s : State) (reg m : Byte) : (s.setBitFlags reg m).flagN = m.getLsbD 7 := rfl
@[simp] theorem State.setBitFlags_flagV (s : State) (reg m : Byte) : (s.setBitFlags reg m).flagV = m.getLsbD 6 := rfl
@[simp] theorem State.setBitFlags_flagD (s : State) (reg m : Byte) : (s.setBitFlags reg m).flagD = s.flagD := rfl
@[simp] theorem State.setBitFlags_flagI (s : State) (reg m : Byte) : (s.setBitFlags reg m).flagI = s.flagI := rfl
@[simp] theorem State.setBitFlags_flagZ (s : State) (reg m : Byte) : (s.setBitFlags reg m).flagZ = ((reg &&& m) == 0x00#8) := rfl
@[simp] theorem State.setBitFlags_flagC (s : State) (reg m : Byte) : (s.setBitFlags reg m).flagC = s.flagC := rfl
@[simp] theorem State.setBitFlags_ia (s : State) (reg m : Byte) : (s.setBitFlags reg m).ia = s.ia := rfl
@[simp] theorem State.setBitFlags_io (s : State) (reg m : Byte) : (s.setBitFlags reg m).io = s.io := rfl
@[simp] theorem State.setBitFlags_queue (s : State) (reg m : Byte) : (s.setBitFlags reg m).queue = s.queue := rfl
@[simp] theorem State.setBitFlags_halted (s : State) (reg m : Byte) : (s.setBitFlags reg m).halted = s.halted := rfl
@[simp] theorem State.setBitFlags_fault (s : State) (reg m : Byte) : (s.setBitFlags reg m).fault = s.fault := rfl
@[simp] theorem State.setBitFlags_cycles (s : State) (reg m : Byte) : (s.setBitFlags reg m).cycles = s.cycles := rfl
@[simp] theorem State.setBitFlags_devices (s : State) (reg m : Byte) : (s.setBitFlags reg m).devices = s.devices := rfl
@[simp] theorem State.setBitFlags_opcodeSet (s : State) (reg m : Byte) : (s.setBitFlags reg m).opcodeSet = s.opcodeSet := rfl
@[simp] theorem State.setBitFlags_resetRegs (s : State) (reg m : Byte) : (s.setBitFlags reg m).resetRegs = s.resetRegs := rfl

/-! ### advance -/

@[simp] theorem State.advance_pc (s : State) (len k : Nat) : (s.advance len k).pc = s.pc + BitVec.ofNat 16 len := rfl
@[simp] theorem State.advance_a (s : State) (len k : Nat) : (s.advance len k).a = s.a := rfl
@[simp] theorem State.advance_x (s : State) (len k : Nat) : (s.advance len k).x = s.x := rfl
@[simp] theorem State.advance_y (s : State) (len k : Nat) : (s.advance len k).y = s.y := rfl
@[simp] theorem State.advance_flagN (s : State) (len k : Nat) : (s.advance len k).flagN = s.flagN := rfl
@[simp] theorem State.advance_flagV (s : State) (len k : Nat) : (s.advance len k).flagV = s.flagV := rfl
@[simp] theorem State.advance_flagD (s : State) (len k : Nat) : (s.advance len k).flagD = s.flagD := rfl
@[simp] theorem State.advance_flagI (s : State) (len k : Nat) : (s.advance len k).flagI = s.flagI := rfl
@[simp] theorem State.advance_flagZ (s : State) (len k : Nat) : (s.advance len k).flagZ = s.flagZ := rfl
@[simp] theorem State.advance_flagC (s : State) (len k : Nat) : (s.advance len k).flagC = s.flagC := rfl
@[simp] theorem State.advance_ia (s : State) (len k : Nat) : (s.advance len k).ia = s.ia := rfl
@[simp] theorem State.advance_io (s : State) (len k : Nat) : (s.advance len k).io = s.io := rfl
@[simp] theorem State.advance_queue (s : State) (len k : Nat) : (s.advance len k).queue = s.queue := rfl
@[simp] theorem State.advance_halted (s : State) (len k : Nat) : (s.advance len k).halted = s.halted := rfl
@[simp] theorem State.advance_fault (s : State) (len k : Nat) : (s.advance len k).fault = s.fault := rfl
@[simp] theorem State.advance_cycles (s : State) (len k : Nat) : (s.advance len k).cycles = s.cycles + k := rfl
@[simp] theorem State.advance_devices (s : State) (len k : Nat) : (s.advance len k).devices = s.devices := rfl
@[simp] theorem State.advance_opcodeSet (s : State) (len k : Nat) : (s.advance len k).opcodeSet = s.opcodeSet := rfl
@[simp] theorem State.advance_resetRegs (s : State) (len k : Nat) : (s.advance len k).resetRegs = s.resetRegs := rfl

/-! ### memRead -/

@[simp] theorem State.memRead_pc (s : State) (addr : Addr) : ((s.memRead addr).2).pc = s.pc := rfl
@[simp] theorem State.memRead_a (s : State) (addr : Addr) : ((s.memRead addr).2).a = s.a := rfl
@[simp] theorem State.memRead_x (s : State) (addr : Addr) : ((s.memRead addr).2).x = s.x := rfl
@[simp] theorem State.memRead_y (s : State) (addr : Addr) : ((s.memRead addr).2).y = s.y := rfl
@[simp] theorem State.memRead_flagN (s : State) (addr : Addr) : ((s.memRead addr).2).flagN = s.flagN := rfl
@[simp] theorem State.memRead_flagV (s : State) (addr : Addr) : ((s.memRead addr).2).flagV = s.flagV := rfl
@[simp] theorem State.memRead_flagD (s : State) (addr : Addr) : ((s.memRead addr).2).flagD = s.flagD := rfl
@[simp] theorem State.memRead_flagI (s : State) (addr : Addr) : ((s.memRead addr).2).flagI = s.flagI := rfl
@[simp] theorem State.memRead_flagZ (s : State) (addr : Addr) : ((s.memRead addr).2).flagZ = s.flagZ := rfl
@[simp] theorem State.memRead_flagC (s : State) (addr : Addr) : ((s.memRead addr).2).flagC = s.flagC := rfl
@[simp] theorem State.memRead_ia (s : State) (addr : Addr) : ((s.memRead addr).2).ia = s.ia := rfl
@[simp] theorem State.memRead_io (s : State) (addr : Addr) : ((s.memRead addr).2).io = s.io := rfl
@[simp] theorem State.memRead_queue (s : State) (addr : Addr) : ((s.memRead addr).2).queue = s.queue := rfl
@[simp] theorem State.memRead_halted (s : State) (addr : Addr) : ((s.memRead addr).2).halted = s.halted := rfl
@[simp] theorem State.memRead_fault (s : State) (addr : Addr) : ((s.memRead addr).2).fault = s.fault := rfl
@[simp] theorem State.memRead_cycles (s : State) (addr : Addr) : ((s.memRead addr).2).cycles = s.cycles := rfl
@[simp] theorem State.memRead_devices (s : State) (addr : Addr) : ((s.memRead addr).2).devices = (busRead s.devices addr).2 := rfl
@[simp] theorem State.memRead_opcodeSet (s : State) (addr : Addr) : ((s.memRead addr).2).opcodeSet = s.opcodeSet := rfl
@[simp] theorem State.memRead_resetRegs (s : State) (addr : Addr) : ((s.memRead addr).2).resetRegs = s.resetRegs := rfl

/-! ### memWrite -/

@[simp] theorem State.memWrite_pc (s : State) (addr : Addr) (v : Byte) : (s.memWrite addr v).pc = s.pc := rfl
@[simp] theorem State.memWrite_a (s : State) (addr : Addr) (v : Byte) : (s.memWrite addr v).a = s.a := rfl
@[simp] theorem State.memWrite_x (s : State) (addr : Addr) (v : Byte) : (s.memWrite addr v).x = s.x := rfl
@[simp] theorem State.memWrite_y (s : State) (addr : Addr) (v : Byte) : (s.memWrite addr v).y = s.y := rfl
@[simp] theorem State.memWrite_flagN (s : State) (addr : Addr) (v : Byte) : (s.memWrite addr v).flagN = s.flagN := rfl
@[simp] theorem State.memWrite_flagV (s : State) (addr : Addr) (v : Byte) : (s.memWrite addr v).flagV = s.flagV := rfl
@[simp] theorem State.memWrite_flagD (s : State) (addr : Addr) (v : Byte) : (s.memWrite addr v).flagD = s.flagD := rfl
@[simp] theorem State.memWrite_flagI (s : State) (addr : Addr) (v : Byte) : (s.memWrite addr v).flagI = s.flagI := rfl
@[simp] theorem State.memWrite_flagZ (s : State) (addr : Addr) (v : Byte) : (s.memWrite addr v).flagZ = s.flagZ := rfl
@[simp] theorem State.memWrite_flagC (s : State) (addr : Addr) (v : Byte) : (s.memWrite addr v).flagC = s.flagC := rfl
@[simp] theorem State.memWrite_ia (s : State) (addr : Addr) (v : Byte) : (s.memWrite addr v).ia = s.ia := rfl
@[simp] theorem State.memWrite_io (s : State) (addr : Addr) (v : Byte) : (s.memWrite addr v).io = s.io := rfl
@[simp] theorem State.memWrite_queue (s : State) (addr : Addr) (v : Byte) : (s.memWrite addr v).queue = s.queue := rfl
@[simp] theorem State.memWrite_halted (s : State) (addr : Addr) (v : Byte) : (s.memWrite addr v).halted = s.halted := rfl
@[simp] theorem State.memWrite_fault (s : State) (addr : Addr) (v : Byte) : (s.memWrite addr v).fault = s.fault := rfl
@[simp] theorem State.memWrite_cycles (s : State) (addr : Addr) (v : Byte) : (s.memWrite addr v).cycles = s.cycles := rfl
@[simp] theorem State.memWrite_devices (s : State) (addr : Addr) (v : Byte) : (s.memWrite addr v).devices = busWrite s.devices addr v := rfl
@[simp] theorem State.memWrite_opcodeSet (s : State) (addr : Addr) (v : Byte) : (s.memWrite addr v).opcodeSet = s.opcodeSet := rfl
@[simp] theorem State.memWrite_resetRegs (s : State) (addr : Addr) (v : Byte) : (s.memWrite addr v).resetRegs = s.resetRegs := rfl

/-! ### dequeue -/

@[simp] theorem State.dequeue_pc (s : State) (rest : List MicroOp) : (s.dequeue rest).pc = s.pc := rfl
@[simp] theorem State.dequeue_a (s : State) (rest : List MicroOp) : (s.dequeue rest).a = s.a := rfl
@[simp] theorem State.dequeue_x (s : State) (rest : List MicroOp) : (s.dequeue rest).x = s.x := rfl
@[simp] theorem State.dequeue_y (s : State) (rest : List MicroOp) : (s.dequeue rest).y = s.y := rfl
@[simp] theorem State.dequeue_flagN (s : State) (rest : List MicroOp) : (s.dequeue rest).flagN = s.flagN := rfl
@[simp] theorem State.dequeue_flagV (s : State) (rest : List MicroOp) : (s.dequeue rest).flagV = s.flagV := rfl
@[simp] theorem State.dequeue_flagD (s : State) (rest : List MicroOp) : (s.dequeue rest).flagD = s.flagD := rfl
@[simp] theorem State.dequeue_flagI (s : State) (rest : List MicroOp) : (s.dequeue rest).flagI = s.flagI := rfl
@[simp] theorem State.dequeue_flagZ (s : State) (rest : List MicroOp) : (s.dequeue rest).flagZ = s.flagZ := rfl
@[simp] theorem State.dequeue_flagC (s : State) (rest : List MicroOp) : (s.dequeue rest).flagC = s.flagC := rfl
@[simp] theorem State.dequeue_ia (s : State) (rest : List MicroOp) : (s.dequeue rest).ia = s.ia := rfl
@[simp] theorem State.dequeue_io (s : State) (rest : List MicroOp) : (s.dequeue rest).io = s.io := rfl
@[simp] theorem State.dequeue_queue (s : State) (rest : List MicroOp) : (s.dequeue rest).queue = rest := rfl
@[simp] theorem State.dequeue_halted (s : State) (rest : List MicroOp) : (s.dequeue rest).halted = s.halted := rfl
@[simp] theorem State.dequeue_fault (s : State) (rest : List MicroOp) : (s.dequeue rest).fault = s.fault := rfl
@[simp] theorem State.dequeue_cycles (s : State) (rest : List MicroOp) : (s.dequeue rest).cycles = s.cycles + 1 := rfl
@[simp] theorem State.dequeue_devices (s : State) (rest : List MicroOp) : (s.dequeue rest).devices = s.devices := rfl
@[simp] theorem State.dequeue_opcodeSet (s : State) (rest : List MicroOp) : (s.dequeue rest).opcodeSet = s.opcodeSet := rfl
@[simp] theorem State.dequeue_resetRegs (s : State) (rest : List MicroOp) : (s.dequeue rest).resetRegs = s.resetRegs := rfl

/-! ### afterFetch -/

@[simp] theorem State.afterFetch_pc (s : State) (n : Nat) : (s.afterFetch n).pc = s.pc := rfl
@[simp] theorem State.afterFetch_a (s : State) (n : Nat) : (s.afterFetch n).a = s.a := rfl
@[simp] theorem State.afterFetch_x (s : State) (n : Nat) : (s.afterFetch n).x = s.x := rfl
@[simp] theorem State.afterFetch_y (s : State) (n : Nat) : (s.afterFetch n).y = s.y := rfl
@[simp] theorem State.afterFetch_flagN (s : State) (n : Nat) : (s.afterFetch n).flagN = s.flagN := rfl
@[simp] theorem State.afterFetch_flagV (s : State) (n : Nat) : (s.afterFetch n).flagV = s.flagV := rfl
@[simp] theorem State.afterFetch_flagD (s : State) (n : Nat) : (s.afterFetch n).flagD = s.flagD := rfl
@[simp] theorem State.afterFetch_flagI (s : State) (n : Nat) : (s.afterFetch n).flagI = s.flagI := rfl
@[simp] theorem State.afterFetch_flagZ (s : State) (n : Nat) : (s.afterFetch n).flagZ = s.flagZ := rfl
@[simp] theorem State.afterFetch_flagC (s : State) (n : Nat) : (s.afterFetch n).flagC = s.flagC := rfl
@[simp] theorem State.afterFetch_ia (s : State) (n : Nat) : (s.afterFetch n).ia = s.ia := rfl
@[simp] theorem State.afterFetch_io (s : State) (n : Nat) : (s.afterFetch n).io = s.io := rfl
@[simp] theorem State.afterFetch_queue (s : State) (n : Nat) : (s.afterFetch n).queue = s.queue := rfl
@[simp] theorem State.afterFetch_halted (s : State) (n : Nat) : (s.afterFetch n).halted = s.halted := rfl
@[simp] theorem State.afterFetch_fault (s : State) (n : Nat) : (s.afterFetch n).fault = s.fault := rfl
@[simp] theorem State.afterFetch_cycles (s : State) (n : Nat) : (s.afterFetch n).cycles = s.cycles := rfl
@[simp] theorem State.afterFetch_devices (s : State) (n : Nat) : (s.afterFetch n).devices = (readStream n s.pc s.devices).2 := rfl
@[simp] theorem State.afterFetch_opcodeSet (s : State) (n : Nat) : (s.afterFetch n).opcodeSet = s.opcodeSet := rfl
@[simp] theorem State.afterFetch_resetRegs (s : State) (n : Nat) : (s.afterFetch n).resetRegs = s.resetRegs := rfl

/-! ### fetchByte -/

@[simp] theorem State.fetchByte_pc (s : State) : (s.fetchByte.2).pc = s.pc + 1#16 := rfl
@[simp] theorem State.fetchByte_a (s : State) : (s.fetchByte.2).a = s.a := rfl
@[simp] theorem State.fetchByte_x (s : State) : (s.fetchByte.2).x = s.x := rfl
@[simp] theorem State.fetchByte_y (s : State) : (s.fetchByte.2).y = s.y := rfl
@[simp] theorem State.fetchByte_flagN (s : State) : (s.fetchByte.2).flagN = s.flagN := rfl
@[simp] theorem State.fetchByte_flagV (s : State) : (s.fetchByte.2).flagV = s.flagV := rfl
@[simp] theorem State.fetchByte_flagD (s : State) : (s.fetchByte.2).flagD = s.flagD := rfl
@[simp] theorem State.fetchByte_flagI (s : State) : (s.fetchByte.2).flagI = s.flagI := rfl
@[simp] theorem State.fetchByte_flagZ (s : State) : (s.fetchByte.2).flagZ = s.flagZ := rfl
@[simp] theorem State.fetchByte_flagC (s : State) : (s.fetchByte.2).flagC = s.flagC := rfl
@[simp] theorem State.fetchByte_ia (s : State) : (s.fetchByte.2).ia = s.ia := rfl
@[simp] theorem State.fetchByte_io (s : State) : (s.fetchByte.2).io = s.io := rfl
@[simp] theorem State.fetchByte_queue (s : State) : (s.fetchByte.2).queue = s.queue := rfl
@[simp] theorem State.fetchByte_halted (s : State) : (s.fetchByte.2).halted = s.halted := rfl
@[simp] theorem State.fetchByte_fault (s : State) : (s.fetchByte.2).fault = s.fault := rfl
@[simp] theorem State.fetchByte_cycles (s : State) : (s.fetchByte.2).cycles = s.cycles := rfl
@[simp] theorem State.fetchByte_devices (s : State) : (s.fetchByte.2).devices = (busRead s.devices s.pc).2 := rfl
@[simp] theorem State.fetchByte_opcodeSet (s : State) : (s.fetchByte.2).opcodeSet = s.opcodeSet := rfl
@[simp] theorem State.fetchByte_resetRegs (s : State) : (s.fetchByte.2).resetRegs = s.resetRegs := rfl

@[simp] theorem State.memRead_byte (s : State) (addr : Addr) : (s.memRead addr).1 = (busRead s.devices addr).1 := rfl
@[simp] theorem State.fetchByte_byte (s : State) : s.fetchByte.1 = (busRead s.devices s.pc).1 := rfl

@[simp] theorem State.getReg_setReg_same (s : State) (r : Reg8) (v : Byte) : (s.setReg r v).getReg r = v := by
  cases r <;> rfl

theorem State.getReg_setReg_other (s : State) {r q : Reg8} (h : q ≠ r) (v : Byte) :
    (s.setReg r v).getReg q = s.getReg q := by
  cases r <;> cases q <;> first | rfl | exact absurd rfl h

@[simp] theorem State.getFlag_putFlag_same (s : State) (f : Flag) (b : Bool) : (s.putFlag f b).getFlag f = b := by
  cases f <;> rfl

theorem State.getFlag_putFlag_other (s : State) {f g : Flag} (h : g ≠ f) (b : Bool) :
    (s.putFlag f b).getFlag g = s.getFlag g := by
  cases f <;> cases g <;> first | rfl | exact absurd rfl h

end Sys2Proof.Machine
end

