-- ==== Sys2Proof/Laws/Ops.lean ====
section
/-! SUPPORT. What each shared operation can do to the parts of the state no instruction's result is about: one lemma per
operation, said with `Keeps`, and one for every micro-op. -/

namespace Sys2Proof.Machine

/-- From `s` to `t`: Q, the fault, the cycle count and the construction parameters are the same, the device list is the
same but for contents, and well-formed devices stay well-formed. -/
structure Keeps (s t : State) : Prop where
  queue : t.queue = s.queue
  fault : t.fault = s.fault
  cycles : t.cycles = s.cycles
  opcodeSet : t.opcodeSet = s.opcodeSet
  resetRegs : t.resetRegs = s.resetRegs
  platform : t.platform = s.platform
  devicesWf : (∀ d ∈ s.devices, d.wf = true) → ∀ d ∈ t.devices, d.wf = true

theorem Keeps.refl (s : State) : Keeps s s := ⟨rfl, rfl, rfl, rfl, rfl, rfl, id⟩

theorem Keeps.trans {s t u : State} (h : Keeps s t) (k : Keeps t u) : Keeps s u :=
  ⟨k.queue.trans h.queue, k.fault.trans h.fault, k.cycles.trans h.cycles, k.opcodeSet.trans h.opcodeSet,
    k.resetRegs.trans h.resetRegs, k.platform.trans h.platform, fun w => k.devicesWf (h.devicesWf w)⟩

/-- An update that leaves the devices and the sequencer's fields alone keeps everything `Keeps` names. -/
theorem Keeps.of_fields {s t : State} (hq : t.queue = s.queue) (hf : t.fault = s.fault) (hc : t.cycles = s.cycles)
    (ho : t.opcodeSet = s.opcodeSet) (hr : t.resetRegs = s.resetRegs) (hd : t.devices = s.devices) : Keeps s t :=
  ⟨hq, hf, hc, ho, hr, by simp [State.platform, hd], fun w => by rw [hd]; exact w⟩

/-! ## The bus -/

theorem Device.doRead_shape (d : Device) (addr : Addr) : (d.doRead addr).2.shape = d.shape := by cases d <;> rfl

theorem Device.doWrite_shape (d : Device) (addr : Addr) (v : Byte) : (d.doWrite addr v).shape = d.shape := by
  cases d <;> rfl

theorem busRead_shape : ∀ (devices : List Device) (addr : Addr),
    (busRead devices addr).2.map Device.shape = devices.map Device.shape := by
  intro devices addr
  induction devices with
  | nil => rfl
  | cons d rest ih =>
    simp only [busRead]
    split <;> simp [Device.doRead_shape, ih]

theorem busWrite_shape : ∀ (devices : List Device) (addr : Addr) (v : Byte),
    (busWrite devices addr v).map Device.shape = devices.map Device.shape := by
  intro devices addr v
  induction devices with
  | nil => rfl
  | cons d rest ih =>
    simp only [busWrite, List.map_cons, ih]
    split <;> simp [Device.doWrite_shape]

theorem State.memRead_keeps (s : State) (addr : Addr) : Keeps s (s.memRead addr).2 :=
  ⟨rfl, rfl, rfl, rfl, rfl, busRead_shape _ _, busRead_wf addr⟩

theorem State.memWrite_keeps (s : State) (addr : Addr) (v : Byte) : Keeps s (s.memWrite addr v) :=
  ⟨rfl, rfl, rfl, rfl, rfl, busWrite_shape _ _ _, busWrite_wf addr v⟩

theorem readStream_shape : ∀ (n : Nat) (pc : Addr) (devices : List Device),
    (readStream n pc devices).2.map Device.shape = devices.map Device.shape := by
  intro n
  induction n with
  | zero => intro pc devices; rfl
  | succ n ih => intro pc devices; simp [readStream, ih, busRead_shape]

theorem readStream_wf : ∀ (n : Nat) (pc : Addr) {devices : List Device}, (∀ d ∈ devices, d.wf = true) →
    ∀ d ∈ (readStream n pc devices).2, d.wf = true := by
  intro n
  induction n with
  | zero => intro pc devices h; exact h
  | succ n ih => intro pc devices h; exact ih _ (busRead_wf pc h)

theorem readStream_length : ∀ (n : Nat) (pc : Addr) (devices : List Device),
    (readStream n pc devices).1.length = n := by
  intro n
  induction n with
  | zero => intro pc devices; rfl
  | succ n ih => intro pc devices; simp [readStream, ih]

theorem State.afterFetch_keeps (s : State) (n : Nat) : Keeps s (s.afterFetch n) :=
  ⟨rfl, rfl, rfl, rfl, rfl, readStream_shape _ _ _, readStream_wf n s.pc⟩

/-- On a platform of Memories a bus read changes nothing. -/
theorem State.memRead_memoryOnly {s : State} (h : s.memoryOnly) (addr : Addr) : (s.memRead addr).2 = s := by
  simp [State.memRead, busRead_memories addr h]

theorem readStream_memories : ∀ (n : Nat) (pc : Addr) {devices : List Device},
    (∀ d ∈ devices, ∃ m, d = .memory m) → (readStream n pc devices).2 = devices := by
  intro n
  induction n with
  | zero => intro pc devices _; rfl
  | succ n ih => intro pc devices h; simp [readStream, busRead_memories pc h, ih _ h]

/-- On a platform of Memories fetching changes no device. -/
theorem State.afterFetch_memoryOnly {s : State} (h : s.memoryOnly) (n : Nat) : s.afterFetch n = s := by
  simp [State.afterFetch, readStream_memories n s.pc h]

/-! ## Registers and flags -/

theorem State.setReg_keeps (s : State) (r : Reg8) (v : Byte) : Keeps s (s.setReg r v) := by
  cases r <;> exact .of_fields rfl rfl rfl rfl rfl rfl

theorem State.putFlag_keeps (s : State) (f : Flag) (b : Bool) : Keeps s (s.putFlag f b) := by
  cases f <;> exact .of_fields rfl rfl rfl rfl rfl rfl

theorem State.setNZ_keeps (s : State) (v : Byte) : Keeps s (s.setNZ v) := .of_fields rfl rfl rfl rfl rfl rfl

/-! ## Address micro-ops and operand reads -/

theorem immediate_keeps (imm8 : Byte) (s : State) : Keeps s (immediate imm8 s) := .of_fields rfl rfl rfl rfl rfl rfl

theorem eaZeroPage_keeps (imm8 : Byte) (s : State) : Keeps s (eaZeroPage imm8 s) := .of_fields rfl rfl rfl rfl rfl rfl

theorem eaZeroPageX_keeps (imm8 : Byte) (s : State) : Keeps s (eaZeroPageX imm8 s) :=
  .of_fields rfl rfl rfl rfl rfl rfl

theorem eaZeroPageY_keeps (imm8 : Byte) (s : State) : Keeps s (eaZeroPageY imm8 s) :=
  .of_fields rfl rfl rfl rfl rfl rfl

theorem eaAbsolute_keeps (addr : Addr) (s : State) : Keeps s (eaAbsolute addr s) := .of_fields rfl rfl rfl rfl rfl rfl

theorem eaAbsoluteX_keeps (addr : Addr) (s : State) : Keeps s (eaAbsoluteX addr s) :=
  .of_fields rfl rfl rfl rfl rfl rfl

theorem eaAbsoluteY_keeps (addr : Addr) (s : State) : Keeps s (eaAbsoluteY addr s) :=
  .of_fields rfl rfl rfl rfl rfl rfl

theorem readAddressLo_keeps (s : State) : Keeps s (readAddressLo s) :=
  (s.memRead_keeps s.ia).trans (.of_fields rfl rfl rfl rfl rfl rfl)

theorem readAddressHi_keeps (s : State) : Keeps s (readAddressHi s) :=
  (s.memRead_keeps (pointerHighAddr s.ia)).trans (.of_fields rfl rfl rfl rfl rfl rfl)

theorem dereference_keeps (s : State) : Keeps s (dereference s) :=
  (readAddressLo_keeps s).trans (readAddressHi_keeps _)

theorem eaIndirect_keeps (addr : Addr) (s : State) : Keeps s (eaIndirect addr s) :=
  (eaAbsolute_keeps addr s).trans (dereference_keeps _)

theorem eaIndexedIndirect_keeps (imm8 : Byte) (s : State) : Keeps s (eaIndexedIndirect imm8 s) :=
  (eaZeroPageX_keeps imm8 s).trans (dereference_keeps _)

theorem eaIndirectIndexed_keeps (imm8 : Byte) (s : State) : Keeps s (eaIndirectIndexed imm8 s) :=
  ((eaZeroPage_keeps imm8 s).trans (dereference_keeps _)).trans (.of_fields rfl rfl rfl rfl rfl rfl)

theorem readOperand_keeps (s : State) : Keeps s (readOperand s) :=
  (s.memRead_keeps s.ia).trans (.of_fields rfl rfl rfl rfl rfl rfl)

theorem State.fetchByte_keeps (s : State) : Keeps s s.fetchByte.2 :=
  (s.memRead_keeps s.pc).trans (.of_fields rfl rfl rfl rfl rfl rfl)

/-- On a platform of Memories fetching a byte changes nothing but PC. -/
theorem State.fetchByte_memoryOnly {s : State} (h : s.memoryOnly) : s.fetchByte.2 = { s with pc := s.pc + 1#16 } := by
  simp [State.fetchByte, State.memRead_memoryOnly h]

/-! ## Semantic micro-ops -/

theorem storeToRegister_keeps (src dst : Reg8) (s : State) : Keeps s (storeToRegister src dst s) := by
  cases dst <;> exact .of_fields rfl rfl rfl rfl rfl rfl

theorem writeToAddress_keeps (src : Reg8) (addr : AddrReg) (s : State) : Keeps s (writeToAddress src addr s) :=
  s.memWrite_keeps _ _

theorem jumpToAddress_keeps (s : State) : Keeps s (jumpToAddress s) := .of_fields rfl rfl rfl rfl rfl rfl

theorem computeAndStore_keeps (left dst : Reg8) (func : AluFunc) (s : State) :
    Keeps s (computeAndStore left dst func s) := by
  have base : ∀ v, Keeps s ((s.setReg dst v).setNZ v) := fun v => (s.setReg_keeps dst v).trans (State.setNZ_keeps _ v)
  simp only [computeAndStore]
  split
  · exact (base _).trans (.of_fields rfl rfl rfl rfl rfl rfl)
  · exact base _

theorem compareToRegister_keeps (src reg2 : Reg8) (s : State) : Keeps s (compareToRegister src reg2 s) :=
  .of_fields rfl rfl rfl rfl rfl rfl

theorem bitTest_keeps (reg : Reg8) (s : State) : Keeps s (bitTest reg s) := .of_fields rfl rfl rfl rfl rfl rfl

theorem modifyRegister_keeps (reg : Reg8) (func : ModifyFunc) (s : State) : Keeps s (modifyRegister reg func s) :=
  ((s.setReg_keeps reg _).trans (State.setNZ_keeps _ (func.result (s.getReg reg) s.flagC))).trans
    (.of_fields rfl rfl rfl rfl rfl rfl)

theorem incrementPCBySignedOperand_keeps (cond : Cond) (s : State) : Keeps s (incrementPCBySignedOperand cond s) := by
  simp only [incrementPCBySignedOperand]
  split
  · exact .of_fields rfl rfl rfl rfl rfl rfl
  · exact .refl s

theorem incrementAddressByReg_keeps (reg : Reg8) (wrap : Wrap) (s : State) :
    Keeps s (incrementAddressByReg reg wrap s) := by
  cases wrap <;> exact .of_fields rfl rfl rfl rfl rfl rfl

/-! ## Class suffixes and control -/

theorem loadMemory_keeps (r : Reg8) (s : State) : Keeps s (loadMemory r s) :=
  (readOperand_keeps s).trans (storeToRegister_keeps _ _ _)

theorem loadImmediate_keeps (r : Reg8) (imm8 : Byte) (s : State) : Keeps s (loadImmediate r imm8 s) :=
  (immediate_keeps imm8 s).trans (storeToRegister_keeps _ _ _)

theorem storeMemory_keeps (r : Reg8) (s : State) : Keeps s (storeMemory r s) := writeToAddress_keeps _ _ _

theorem aluMemory_keeps (f : AluFunc) (s : State) : Keeps s (aluMemory f s) :=
  (readOperand_keeps s).trans (computeAndStore_keeps _ _ _ _)

theorem aluImmediate_keeps (f : AluFunc) (imm8 : Byte) (s : State) : Keeps s (aluImmediate f imm8 s) :=
  (immediate_keeps imm8 s).trans (computeAndStore_keeps _ _ _ _)

theorem compareMemory_keeps (r : Reg8) (s : State) : Keeps s (compareMemory r s) :=
  (readOperand_keeps s).trans (compareToRegister_keeps _ _ _)

theorem compareImmediate_keeps (r : Reg8) (imm8 : Byte) (s : State) : Keeps s (compareImmediate r imm8 s) :=
  (immediate_keeps imm8 s).trans (compareToRegister_keeps _ _ _)

theorem bitTestMemory_keeps (s : State) : Keeps s (bitTestMemory s) :=
  (readOperand_keeps s).trans (bitTest_keeps _ _)

theorem modifyMemory_keeps (g : ModifyFunc) (s : State) : Keeps s (modifyMemory g s) :=
  ((readOperand_keeps s).trans (modifyRegister_keeps _ _ _)).trans (writeToAddress_keeps _ _ _)

theorem branch_keeps (flag : Flag) (value : Bool) (rr : Byte) (s : State) : Keeps s (branch flag value rr s) :=
  (immediate_keeps rr s).trans (incrementPCBySignedOperand_keeps _ _)

theorem setFlag_keeps (flag : Flag) (value : Bool) (s : State) : Keeps s (setFlag flag value s) :=
  s.putFlag_keeps flag value

theorem halt_keeps (s : State) : Keeps s (halt s) := .of_fields rfl rfl rfl rfl rfl rfl

/-! ## Every micro-op -/

/-- Every micro-op but FetchOpcode answers a next state, and keeps what `Keeps` names. -/
theorem microOpEffect_keeps {u : MicroOp} (h : u ≠ .fetchOpcode) (s : State) :
    ∃ t, microOpEffect u s = .next t ∧ Keeps s t := by
  cases u with
  | fetchOpcode => exact absurd rfl h
  | fetchImmediateOperand => exact ⟨_, rfl, s.fetchByte_keeps.trans (.of_fields rfl rfl rfl rfl rfl rfl)⟩
  | fetchOperand => exact ⟨_, rfl, s.fetchByte_keeps.trans (.of_fields rfl rfl rfl rfl rfl rfl)⟩
  | fetchZeroPageAddr => exact ⟨_, rfl, s.fetchByte_keeps.trans (.of_fields rfl rfl rfl rfl rfl rfl)⟩
  | fetchAddrLo => exact ⟨_, rfl, s.fetchByte_keeps.trans (.of_fields rfl rfl rfl rfl rfl rfl)⟩
  | fetchAddrHi => exact ⟨_, rfl, s.fetchByte_keeps.trans (.of_fields rfl rfl rfl rfl rfl rfl)⟩
  | incrementAddressByReg reg wrap => exact ⟨_, rfl, incrementAddressByReg_keeps reg wrap s⟩
  | readAddressLo => exact ⟨_, rfl, readAddressLo_keeps s⟩
  | readAddressHi => exact ⟨_, rfl, readAddressHi_keeps s⟩
  | readOperand => exact ⟨_, rfl, readOperand_keeps s⟩
  | incrementPCBySignedOperand cond => exact ⟨_, rfl, incrementPCBySignedOperand_keeps cond s⟩
  | storeToRegister src dst => exact ⟨_, rfl, storeToRegister_keeps src dst s⟩
  | writeToAddress src addr => exact ⟨_, rfl, writeToAddress_keeps src addr s⟩
  | jumpToAddress => exact ⟨_, rfl, jumpToAddress_keeps s⟩
  | computeAndStore left dst func => exact ⟨_, rfl, computeAndStore_keeps left dst func s⟩
  | compareToRegister src reg2 => exact ⟨_, rfl, compareToRegister_keeps src reg2 s⟩
  | bitTest reg => exact ⟨_, rfl, bitTest_keeps reg s⟩
  | modifyRegister reg func => exact ⟨_, rfl, modifyRegister_keeps reg func s⟩
  | setFlag flag value => exact ⟨_, rfl, s.putFlag_keeps flag value⟩
  | nop => exact ⟨_, rfl, .refl s⟩
  | brk => exact ⟨_, rfl, .of_fields rfl rfl rfl rfl rfl rfl⟩

/-- What executing a micro-op can do: a FetchOpcode enqueues an entry's expansion or raises DecodeError; any other
with a meaning answers a next state that keeps what `Keeps` names; one without a meaning raises
UnimplementedOperation. -/
theorem executeMicroOp_cases (u : MicroOp) (s : State) :
    (u = .fetchOpcode ∧ ∃ e, tableEntry s.opcodeSet s.fetchByte.1 = some e ∧
      executeMicroOp u s = .next { s.fetchByte.2 with queue := s.queue ++ e.expansion }) ∨
    (u = .fetchOpcode ∧ tableEntry s.opcodeSet s.fetchByte.1 = none ∧
      executeMicroOp u s = s.fetchByte.2.raise (.decodeError s.fetchByte.1 s.pc)) ∨
    (u ≠ .fetchOpcode ∧ u.wf = true ∧ ∃ t, executeMicroOp u s = .next t ∧ microOpEffect u s = .next t ∧ Keeps s t) ∨
    (u.wf = false ∧ executeMicroOp u s = raiseUnimplemented u s) := by
  by_cases hw : u.wf = true
  · by_cases hu : u = .fetchOpcode
    · subst hu
      have : executeMicroOp .fetchOpcode s = fetchOpcode s := rfl
      rw [this, fetchOpcode]
      cases h : tableEntry s.opcodeSet s.fetchByte.1 with
      | none => exact .inr (.inl ⟨rfl, rfl, rfl⟩)
      | some e => exact .inl ⟨rfl, e, rfl, rfl⟩
    · obtain ⟨t, ht, k⟩ := microOpEffect_keeps hu s
      exact .inr (.inr (.inl ⟨hu, hw, t, by rw [executeMicroOp, if_pos hw, ht], ht, k⟩))
  · have hw' : u.wf = false := by simpa using hw
    exact .inr (.inr (.inr ⟨hw', by rw [executeMicroOp, if_neg hw]⟩))

/-- A tick that is accepted executes one micro-op: the head of Q, or FetchOpcode when Q is empty (40_sequencer R141,
R142). -/
theorem tick_executes {s : State} (h : s.stopped = false) :
    ∃ u rest, ((s.queue = [] ∧ u = .fetchOpcode ∧ rest = []) ∨ s.queue = u :: rest) ∧
      tick s = executeMicroOp u (s.dequeue rest) := by
  cases hq : s.queue with
  | nil => exact ⟨_, _, .inl ⟨rfl, rfl, rfl⟩, by simp [tick, h, hq]⟩
  | cons u rest => exact ⟨u, rest, .inr rfl, by simp [tick, h, hq]⟩

end Sys2Proof.Machine
end

