-- ==== Sys2Proof/Laws/Table.lean ====
section
/-! SUPPORT. The Instruction Table: the lookup by the opcode map's row is the lookup in the whole table. -/

namespace Sys2Proof.Machine

set_option maxRecDepth 20000 in
theorem lookup_agrees_below_256 :
    ∀ n < 256, lookupEntry (completedRows ((BitVec.ofNat 8 n).toNat / 16)) (BitVec.ofNat 8 n)
      = lookupEntry completedTable (BitVec.ofNat 8 n) := by decide

/-- `tableEntry` is the Instruction Table's lookup (30_encoding R109). -/
theorem tableEntry_eq_lookup (set : OpcodeSet) (op : Byte) :
    tableEntry set op = lookupEntry (instructionTable set) op := by
  cases set with
  | shown => rfl
  | completed => simpa [tableEntry, instructionTable] using lookup_agrees_below_256 op.toNat op.isLt

end Sys2Proof.Machine
end

