-- ==== Sys2Proof/Tests/Slice0.lean ====
section
/-! SUPPORT. Tests: each expected result is a word or a value of the spec (the rule is named), and for each statement
with hypotheses a witness that meets them all. -/

open Sys2Proof Sys2Proof.Machine Sys2Proof.Claims

namespace Sys2Proof.Tests

/-! ## Small states -/

/-- An idle core at 0x0200 with one Memory over the whole address space, holding `bytes` from 0x0200 on. -/
def idleAt (bytes : List Byte) : State :=
  { State.reset with queue := [], pc := 0x0200, devices := [.memory (Memory.whole.load 0x0200 bytes)] }

/-- Store one byte in the first device. -/
def poke (s : State) (addr : Addr) (v : Byte) : State := s.memWrite addr v

/-- A test on the next state; false for a fault or a refusal. -/
def nextIs (o : Host.Outcome State Fault Refusal) (p : State → Bool) : Bool :=
  match o with
  | .next t => p t
  | .fault _ => false
  | .refused _ => false

/-- The flags N, V, Z, C of a state. -/
def nvzc (s : State) : Bool × Bool × Bool × Bool := (s.flagN, s.flagV, s.flagZ, s.flagC)

/-- Each word decodes to its instruction. -/
def decodesTo (rows : List (Nat × Nat × Instr)) : Bool :=
  rows.all (fun (nbits, w, i) => decodeTableWord nbits w = some i)

/-- Every row gives, for an instruction with operand `m` run with A = `a` and C, V as given: A and the flags N, V, Z,
C. -/
def aluRows (op : Byte → Instr) (vIn : Bool) (rows : List (Byte × Byte × Bool × Byte × Bool × Bool × Bool × Bool)) :
    Bool :=
  rows.all (fun (a, m, c, r, n, v, z, cOut) =>
    nextIs (exec (op m) { State.reset with a := a, flagC := c, flagV := vIn })
      (fun t => t.a == r && nvzc t == (n, v, z, cOut)))

/-- Every row gives, for a unary function run on A = `v` with C as given: A and the flags N, Z, C. -/
def unaryRows (g : ModifyFunc) (rows : List (Byte × Bool × Byte × Bool × Bool × Bool)) : Bool :=
  rows.all (fun (v, c, r, n, z, cOut) =>
    let t := modifyRegister .a g { State.reset with a := v, flagC := c, flagV := true }
    t.a == r && nvzc t == (n, true, z, cOut))

/-! ## Well-formedness: each check refuses an ill-formed term -/

/-- 30_encoding R107: under SHOWN, `STA $nn` (0x85) is not populated and `STA $nn,X` (0x95) is. -/
theorem test_wf_instr :
    (Instr.staZp 0x10).wf .shown = false ∧ (Instr.staZpX 0x10).wf .shown = true ∧
    (Instr.staZp 0x10).wf .completed = true := by decide

/-- 30_encoding R106 (b) and (c). -/
theorem test_wf_self_store_and_compare :
    (MicroOp.storeToRegister .a .a).wf = false ∧ (MicroOp.storeToRegister .internalOperand .a).wf = true ∧
    (MicroOp.computeAndStore .a .a .compare).wf = false ∧ (MicroOp.computeAndStore .a .a .or).wf = true := by decide

/-- 30_encoding R106 (d): each payload domain of 40_sequencer R153, R158 and 41_microops_alu R186, R191, R192, R194
refuses a payload outside it. -/
theorem test_wf_payload_domain :
    (MicroOp.incrementAddressByReg .a .full).wf = false ∧
    (MicroOp.incrementPCBySignedOperand { flag := .d, value := true }).wf = false ∧
    (MicroOp.computeAndStore .internalOperand .a .or).wf = false ∧
    (MicroOp.computeAndStore .a .internalOperand .or).wf = false ∧
    (MicroOp.compareToRegister .a .x).wf = false ∧
    (MicroOp.compareToRegister .internalOperand .internalOperand).wf = false ∧
    (MicroOp.bitTest .x).wf = false ∧ (MicroOp.setFlag .n true).wf = false ∧
    (MicroOp.setFlag .v true).wf = true := by decide

/-- 20_memory R68, and the canonical form: lower above upper, an address out of range, a listed 0, and addresses not
rising. -/
theorem test_wf_memory :
    ({ lower := 2, upper := 1, cells := [] } : Memory).wf = false ∧
    ({ lower := 0, upper := 1, cells := [(2, 5)] } : Memory).wf = false ∧
    ({ lower := 0, upper := 1, cells := [(0, 0)] } : Memory).wf = false ∧
    ({ lower := 0, upper := 1, cells := [(1, 5), (0, 5)] } : Memory).wf = false ∧
    ({ lower := 0, upper := 1, cells := [(0, 5), (1, 5)] } : Memory).wf = true := by decide

/-- Writing 0 removes the entry, so that equal memories are equal data. -/
theorem test_write_zero_removes : (Memory.whole.write 0x10 5).write 0x10 0 = Memory.whole := by decide

/-- 20_memory R68: a Memory with lower > upper is not constructed, and not registered. -/
theorem test_ill_formed_memory_refused :
    newMemory 2 1 = none ∧
    (match register (.memory { lower := 2, upper := 1, cells := [] }) State.reset with
      | .refused r => r == .illFormedMemory
      | _ => false) = true := by decide

/-! ## Decoding -/

/-- The words of 42_load_store_transfer R230–R239, from the encoding tables there: the opcode byte lowest, the address low byte first. -/
theorem test_decode_load_store_transfer_1 : decodesTo [
    (16, 0x81A9, .ldaImm 0x81), (16, 0x81A5, .ldaZp 0x81), (16, 0x81B5, .ldaZpX 0x81),
    (24, 0x1234AD, .ldaAbs 0x1234), (24, 0x1234BD, .ldaAbsX 0x1234), (24, 0x1234B9, .ldaAbsY 0x1234),
    (16, 0x81A1, .ldaIndX 0x81), (16, 0x81B1, .ldaIndY 0x81), (16, 0x81A2, .ldxImm 0x81),
    (16, 0x81A6, .ldxZp 0x81), (16, 0x81B6, .ldxZpY 0x81), (24, 0x1234AE, .ldxAbs 0x1234),
    (24, 0x1234BE, .ldxAbsY 0x1234), (16, 0x81A0, .ldyImm 0x81), (16, 0x81A4, .ldyZp 0x81),
    (16, 0x81B4, .ldyZpX 0x81), (24, 0x1234AC, .ldyAbs 0x1234), (24, 0x1234BC, .ldyAbsX 0x1234),
    (16, 0x8185, .staZp 0x81), (16, 0x8195, .staZpX 0x81), (24, 0x12348D, .staAbs 0x1234),
    (24, 0x12349D, .staAbsX 0x1234), (24, 0x123499, .staAbsY 0x1234), (16, 0x8181, .staIndX 0x81),
    (16, 0x8191, .staIndY 0x81), (16, 0x8186, .stxZp 0x81), (16, 0x8196, .stxZpY 0x81),
    (24, 0x12348E, .stxAbs 0x1234), (16, 0x8184, .styZp 0x81), (16, 0x8194, .styZpX 0x81),
    (24, 0x12348C, .styAbs 0x1234), (8, 0xAA, .tax)] = true := by decide

/-- The words of 42_load_store_transfer R230–R239, from the encoding tables there: the opcode byte lowest, the address low byte first. -/
theorem test_decode_load_store_transfer_2 : decodesTo [
    (8, 0xA8, .tay), (8, 0x8A, .txa), (8, 0x98, .tya)] = true := by decide

/-- The words of 43_alu_compare R260–R268, from the encoding tables there: the opcode byte lowest, the address low byte first. -/
theorem test_decode_alu_compare_1 : decodesTo [
    (16, 0x8169, .adcImm 0x81), (16, 0x8165, .adcZp 0x81), (16, 0x8175, .adcZpX 0x81),
    (24, 0x12346D, .adcAbs 0x1234), (24, 0x12347D, .adcAbsX 0x1234), (24, 0x123479, .adcAbsY 0x1234),
    (16, 0x8161, .adcIndX 0x81), (16, 0x8171, .adcIndY 0x81), (16, 0x81E9, .sbcImm 0x81),
    (16, 0x81E5, .sbcZp 0x81), (16, 0x81F5, .sbcZpX 0x81), (24, 0x1234ED, .sbcAbs 0x1234),
    (24, 0x1234FD, .sbcAbsX 0x1234), (24, 0x1234F9, .sbcAbsY 0x1234), (16, 0x81E1, .sbcIndX 0x81),
    (16, 0x81F1, .sbcIndY 0x81), (16, 0x8129, .andImm 0x81), (16, 0x8125, .andZp 0x81),
    (16, 0x8135, .andZpX 0x81), (24, 0x12342D, .andAbs 0x1234), (24, 0x12343D, .andAbsX 0x1234),
    (24, 0x123439, .andAbsY 0x1234), (16, 0x8121, .andIndX 0x81), (16, 0x8131, .andIndY 0x81),
    (16, 0x8109, .oraImm 0x81), (16, 0x8105, .oraZp 0x81), (16, 0x8115, .oraZpX 0x81),
    (24, 0x12340D, .oraAbs 0x1234), (24, 0x12341D, .oraAbsX 0x1234), (24, 0x123419, .oraAbsY 0x1234),
    (16, 0x8101, .oraIndX 0x81), (16, 0x8111, .oraIndY 0x81)] = true := by decide

/-- The words of 43_alu_compare R260–R268, from the encoding tables there: the opcode byte lowest, the address low byte first. -/
theorem test_decode_alu_compare_2 : decodesTo [
    (16, 0x8149, .eorImm 0x81), (16, 0x8145, .eorZp 0x81), (16, 0x8155, .eorZpX 0x81),
    (24, 0x12344D, .eorAbs 0x1234), (24, 0x12345D, .eorAbsX 0x1234), (24, 0x123459, .eorAbsY 0x1234),
    (16, 0x8141, .eorIndX 0x81), (16, 0x8151, .eorIndY 0x81), (16, 0x81C9, .cmpImm 0x81),
    (16, 0x81C5, .cmpZp 0x81), (16, 0x81D5, .cmpZpX 0x81), (24, 0x1234CD, .cmpAbs 0x1234),
    (24, 0x1234DD, .cmpAbsX 0x1234), (24, 0x1234D9, .cmpAbsY 0x1234), (16, 0x81C1, .cmpIndX 0x81),
    (16, 0x81D1, .cmpIndY 0x81), (16, 0x81E0, .cpxImm 0x81), (16, 0x81E4, .cpxZp 0x81),
    (24, 0x1234EC, .cpxAbs 0x1234), (16, 0x81C0, .cpyImm 0x81), (16, 0x81C4, .cpyZp 0x81),
    (24, 0x1234CC, .cpyAbs 0x1234), (16, 0x8124, .bitZp 0x81), (24, 0x12342C, .bitAbs 0x1234)] = true := by decide

/-- The words of 44_shift_incdec R290–R299, from the encoding tables there: the opcode byte lowest, the address low byte first. -/
theorem test_decode_shift_incdec : decodesTo [
    (16, 0x8106, .aslZp 0x81), (16, 0x8116, .aslZpX 0x81), (24, 0x12340E, .aslAbs 0x1234),
    (24, 0x12341E, .aslAbsX 0x1234), (8, 0x0A, .aslAcc), (16, 0x8146, .lsrZp 0x81),
    (16, 0x8156, .lsrZpX 0x81), (24, 0x12344E, .lsrAbs 0x1234), (24, 0x12345E, .lsrAbsX 0x1234),
    (8, 0x4A, .lsrAcc), (16, 0x8126, .rolZp 0x81), (16, 0x8136, .rolZpX 0x81),
    (24, 0x12342E, .rolAbs 0x1234), (24, 0x12343E, .rolAbsX 0x1234), (8, 0x2A, .rolAcc),
    (16, 0x8166, .rorZp 0x81), (16, 0x8176, .rorZpX 0x81), (24, 0x12346E, .rorAbs 0x1234),
    (24, 0x12347E, .rorAbsX 0x1234), (8, 0x6A, .rorAcc), (16, 0x81E6, .incZp 0x81),
    (16, 0x81F6, .incZpX 0x81), (24, 0x1234EE, .incAbs 0x1234), (24, 0x1234FE, .incAbsX 0x1234),
    (16, 0x81C6, .decZp 0x81), (16, 0x81D6, .decZpX 0x81), (24, 0x1234CE, .decAbs 0x1234),
    (24, 0x1234DE, .decAbsX 0x1234), (8, 0xE8, .inx), (8, 0xC8, .iny), (8, 0xCA, .dex), (8, 0x88, .dey)] = true := by decide

/-- The words of 45_control_flags R320–R337, from the encoding tables there: the opcode byte lowest, the address low byte first. -/
theorem test_decode_control_flags : decodesTo [
    (24, 0x12344C, .jmpAbs 0x1234), (24, 0x12346C, .jmpInd 0x1234), (16, 0x8110, .bpl 0x81),
    (16, 0x8130, .bmi 0x81), (16, 0x8150, .bvc 0x81), (16, 0x8170, .bvs 0x81), (16, 0x8190, .bcc 0x81),
    (16, 0x81B0, .bcs 0x81), (16, 0x81D0, .bne 0x81), (16, 0x81F0, .beq 0x81), (8, 0x00, .brk),
    (8, 0xEA, .nop), (8, 0x18, .clc), (8, 0x38, .sec), (8, 0x58, .cli), (8, 0x78, .sei), (8, 0xB8, .clv),
    (8, 0xD8, .cld), (8, 0xF8, .sed)] = true := by decide

/-- 30_encoding R108, R127: the stack opcodes, an undocumented NOP, STA immediate's byte and INC A's are unpopulated; a
word too short for its instruction gives none. -/
theorem test_decode_refuses :
    [0x08, 0x20, 0x28, 0x40, 0x48, 0x60, 0x68, 0x9A, 0xBA, 0x80, 0x89, 0x1A].all
      (fun w => decodeTableWord 24 w = none) = true ∧ decode [0x4C, 0x00] = .error .truncated := by decide

/-! ## The next instruction, as the step runs it -/

/-- 42_load_store_transfer R230, scenario A: `LDA #$AA` gives A = AA, N = 1, Z = 0, in 3 ticks. -/
theorem test_step_lda :
    nextIs (step (State.reset.withFetchWord 16 0xAAA9))
      (fun t => t.a == 0xAA && nvzc t == (true, false, false, false) && t.pc == 0xFFFE && t.cycles == 3) = true := by
  decide

/-- 42 R231 LDX and R232 LDY: `LDX $nn,Y` wraps in page zero (FF + 02 reads 0001); `LDY $0010,X` (2.8) reads 0012. -/
theorem test_ldx_zpY_wraps_and_ldy_absX :
    nextIs (exec (.ldxZpY 0xFF) (poke { idleAt [] with y := 0x02 } 0x0001 0xC3))
      (fun t => t.x == 0xC3 && t.flagN && t.ia == 0x0001) = true ∧
    nextIs (exec (.ldyAbsX 0x0010) { idleAt [] with x := 0x02, y := 0x33 })
      (fun t => t.y == 0x00 && t.flagZ && t.ia == 0x0012) = true := by decide

/-- 42 R233: `STA $80,X` with X = FF writes 007F and not 017F; 2.7: `STA $FFFF,Y` with Y = 01 wraps to 0000. -/
theorem test_sta_wraps :
    nextIs (exec (.staZpX 0x80) { idleAt [] with x := 0xFF, a := 0x42 })
      (fun t => t.peek 0x007F == 0x42 && t.peek 0x017F == 0 && t.ia == 0x007F && !t.flagZ) = true ∧
    nextIs (exec (.staAbsY 0xFFFF) { idleAt [] with y := 0x01, a := 0x42 })
      (fun t => t.peek 0x0000 == 0x42 && t.ia == 0x0000) = true := by decide

/-- 42 R234, R235: `STX $20` with X = 11; `STY $1234` (8C 34 12) with Y = 22; 2.7: `STX $81,Y` with Y = FF writes
0080. -/
theorem test_stx_sty :
    nextIs (exec (.stxZp 0x20) { idleAt [] with x := 0x11 }) (fun t => t.peek 0x0020 == 0x11 && t.cycles == 3) = true ∧
    nextIs (exec (.stxZpY 0x81) { idleAt [] with y := 0xFF, x := 0x5A }) (fun t => t.peek 0x0080 == 0x5A) = true ∧
    nextIs (step { idleAt [0x8C, 0x34, 0x12] with y := 0x22 })
      (fun t => t.peek 0x1234 == 0x22 && t.cycles == 4 && t.pc == 0x0203) = true := by decide

/-- 42 R236–R239, the examples. -/
theorem test_transfers :
    nextIs (exec .tax { State.reset with a := 0x80 }) (fun t => t.x == 0x80 && t.flagN && !t.flagZ) = true ∧
    nextIs (exec .tay { State.reset with y := 0x55 }) (fun t => t.y == 0x00 && t.flagZ && !t.flagN) = true ∧
    nextIs (exec .txa { State.reset with x := 0x7F }) (fun t => t.a == 0x7F && !t.flagN && !t.flagZ) = true ∧
    nextIs (exec .tya { State.reset with y := 0xFF }) (fun t => t.a == 0xFF && t.flagN && !t.flagZ) = true := by decide

/-! ## The ALU, from the tables of 95_test_vectors -/

/-- 2.1, ADC (43 R260). -/
theorem test_adc : aluRows .adcImm false [
    (0x50, 0x10, false, 0x60, false, false, false, false), (0x50, 0x50, false, 0xA0, true, true, false, false),
    (0x50, 0x90, false, 0xE0, true, false, false, false), (0x50, 0xD0, false, 0x20, false, false, false, true),
    (0xD0, 0x10, false, 0xE0, true, false, false, false), (0xD0, 0x50, false, 0x20, false, false, false, true),
    (0xD0, 0x90, false, 0x60, false, true, false, true), (0xD0, 0xD0, false, 0xA0, true, false, false, true),
    (0xFF, 0x00, true, 0x00, false, false, true, true), (0x7F, 0x00, true, 0x80, true, true, false, false),
    (0x00, 0x00, false, 0x00, false, false, true, false), (0xFF, 0xFF, true, 0xFF, true, false, false, true)] =
    true := by decide

/-- 45 R337: with D = 1, 09 + 01 is 0A, not 10. -/
theorem test_adc_ignores_decimal :
    nextIs (exec (.adcImm 0x01) { State.reset with a := 0x09, flagD := true }) (fun t => t.a == 0x0A && t.flagD) =
      true := by decide

/-- 2.2, SBC (43 R261). -/
theorem test_sbc : aluRows .sbcImm false [
    (0x50, 0xF0, true, 0x60, false, false, false, false), (0x50, 0xB0, true, 0xA0, true, true, false, false),
    (0x50, 0x70, true, 0xE0, true, false, false, false), (0x50, 0x30, true, 0x20, false, false, false, true),
    (0xD0, 0xF0, true, 0xE0, true, false, false, false), (0xD0, 0xB0, true, 0x20, false, false, false, true),
    (0xD0, 0x70, true, 0x60, false, true, false, true), (0xD0, 0x30, true, 0xA0, true, false, false, true),
    (0x00, 0x01, true, 0xFF, true, false, false, false), (0x00, 0x00, false, 0xFF, true, false, false, false),
    (0x80, 0x01, true, 0x7F, false, true, false, true), (0x05, 0x05, true, 0x00, false, false, true, true)] =
    true := by decide

/-- 2.3, ORA, AND and EOR (43 R262–R264): V = 1 before and after, C kept. -/
theorem test_logic :
    aluRows .oraImm true [(0xF0, 0x0F, false, 0xFF, true, true, false, false),
      (0x00, 0x00, true, 0x00, false, true, true, true)] = true ∧
    aluRows .andImm true [(0xF0, 0x0F, true, 0x00, false, true, true, true),
      (0xC3, 0x81, false, 0x81, true, true, false, false)] = true ∧
    aluRows .eorImm true [(0xFF, 0xFF, false, 0x00, false, true, true, false),
      (0x80, 0x80, true, 0x00, false, true, true, true), (0x55, 0xAA, false, 0xFF, true, true, false, false)] =
      true := by decide

/-- 2.4, compare (43 R265): A and V unchanged. -/
theorem test_cmp : aluRows .cmpImm true [
    (0x10, 0x10, false, 0x10, false, true, true, true), (0x10, 0x20, true, 0x10, true, true, false, false),
    (0x20, 0x10, false, 0x20, false, true, false, true), (0x00, 0xFF, true, 0x00, false, true, false, false),
    (0xFF, 0x00, false, 0xFF, true, true, false, true), (0x80, 0x00, false, 0x80, true, true, false, true),
    (0x00, 0x80, true, 0x00, true, true, false, false), (0x01, 0x81, true, 0x01, true, true, false, false)] =
    true := by decide

/-- 43 R266, the example of CPX; 2.4, the instance of CPY (R267). -/
theorem test_cpx_cpy :
    nextIs (exec (.cpxImm 0x7F) { State.reset with x := 0x7F }) (fun t => nvzc t == (false, false, true, true)) = true ∧
    nextIs (exec (.cpyImm 0x06) { State.reset with y := 0x05 }) (fun t => nvzc t == (true, false, false, false)) =
      true := by decide

/-- 2.5, BIT (43 R268): N, V and Z; A and C unchanged. -/
theorem test_bit :
    [(0x01, 0xC0, true, true, true), (0xC0, 0xC0, true, true, false), (0x00, 0x00, false, false, true),
      (0xFF, 0x40, false, true, false), (0x0F, 0x81, true, false, false)].all
      (fun (a, m, n, v, z) =>
        nextIs (exec (.bitZp 0x10) (poke { idleAt [] with a := a, flagC := true } 0x0010 m))
          (fun t => t.a == a && nvzc t == (n, v, z, true))) = true := by decide

/-- 2.6, shifts, rotates, increment and decrement (41 R193); V unchanged. -/
theorem test_unary :
    unaryRows .increment [(0xFF, false, 0x00, false, true, false), (0x7F, true, 0x80, true, false, true)] = true ∧
    unaryRows .decrement [(0x00, false, 0xFF, true, false, false), (0x01, true, 0x00, false, true, true),
      (0x80, false, 0x7F, false, false, false)] = true ∧
    unaryRows .shiftLeft [(0x81, false, 0x02, false, false, true), (0x40, true, 0x80, true, false, false),
      (0x80, false, 0x00, false, true, true)] = true ∧
    unaryRows .shiftRight [(0x01, false, 0x00, false, true, true), (0x80, true, 0x40, false, false, false)] = true ∧
    unaryRows .rotateLeft [(0x80, false, 0x00, false, true, true), (0x80, true, 0x01, false, false, true),
      (0x40, true, 0x81, true, false, false)] = true ∧
    unaryRows .rotateRight [(0x01, false, 0x00, false, true, true), (0x01, true, 0x80, true, false, true),
      (0x00, true, 0x80, true, false, false)] = true := by decide

/-- 44 R290, R294, R295, the examples: `ASL $7F`, `INC $7F` and `DEC $1234`; 2.6: `ROR $0F,X` with X = 01. -/
theorem test_memory_modify :
    nextIs (exec (.aslZp 0x7F) (poke (idleAt []) 0x007F 0x81))
      (fun t => t.peek 0x007F == 0x02 && nvzc t == (false, false, false, true) && t.cycles == 5) = true ∧
    nextIs (exec (.incZp 0x7F) (poke (idleAt []) 0x007F 0x02)) (fun t => t.peek 0x007F == 0x03 && t.cycles == 5) = true ∧
    nextIs (exec (.decAbs 0x1234) (poke (idleAt []) 0x1234 0x01))
      (fun t => t.peek 0x1234 == 0x00 && t.flagZ && t.cycles == 6) = true ∧
    nextIs (exec (.rorZpX 0x0F) (poke { idleAt [] with x := 0x01, flagC := true } 0x0010 0x01))
      (fun t => t.peek 0x0010 == 0x80 && nvzc t == (true, false, false, true) && t.cycles == 6) = true := by decide

/-- 44 R291–R293, R296–R299, the examples on the registers. -/
theorem test_register_modify :
    nextIs (exec .lsrAcc { State.reset with a := 0x03 }) (fun t => t.a == 0x01 && nvzc t == (false, false, false, true)) =
      true ∧
    nextIs (exec .rolAcc { State.reset with a := 0x81, flagC := true }) (fun t => t.a == 0x03 && t.flagC) = true ∧
    nextIs (exec .rorAcc { State.reset with a := 0x01, flagC := true }) (fun t => t.a == 0x80 && t.flagN && t.flagC) =
      true ∧
    nextIs (exec .inx { State.reset with x := 0xFF }) (fun t => t.x == 0x00 && t.flagZ) = true ∧
    nextIs (exec .iny { State.reset with y := 0x7F }) (fun t => t.y == 0x80 && t.flagN) = true ∧
    nextIs (exec .dex { State.reset with x := 0x01 }) (fun t => t.x == 0x00 && t.flagZ) = true ∧
    nextIs (exec .dey { State.reset with y := 0x00 }) (fun t => t.y == 0xFF && t.flagN) = true := by decide

/-! ## Addressing, 2.7 of 95_test_vectors -/

/-- `JMP ($10FF)` takes its high byte from 0x1000; `JMP ($0030)` (45 R320) takes 6 ticks. -/
theorem test_jmp_indirect :
    nextIs (exec (.jmpInd 0x10FF) (poke (poke (idleAt []) 0x1000 0x03) 0x1100 0x04)) (fun t => t.pc == 0x0300) = true ∧
    nextIs (exec (.jmpInd 0x0030) (poke (idleAt []) 0x0031 0x03)) (fun t => t.pc == 0x0300 && t.cycles == 6) = true ∧
    nextIs (exec (.jmpAbs 0x0300) (idleAt [])) (fun t => t.pc == 0x0300 && t.cycles == 4) = true := by decide

/-- `LDA ($FE,X)` with X = 01 finds its pointer at 00FF and 0000; `LDA ($FF),Y` with Y = 10 reads 1308. -/
theorem test_pointer_wraps :
    nextIs (exec (.ldaIndX 0xFE) (poke (poke (poke { idleAt [] with x := 0x01 } 0x00FF 0x34) 0x0000 0x12) 0x1234 0x99))
      (fun t => t.a == 0x99 && t.flagN && t.ia == 0x1234) = true ∧
    nextIs (exec (.ldaIndY 0xFF) (poke (poke (poke { idleAt [] with y := 0x10 } 0x00FF 0xF8) 0x0000 0x12) 0x1308 0x77))
      (fun t => t.a == 0x77 && t.ia == 0x1308 && t.cycles == 7) = true := by decide

/-- `LDA $12FF,Y` with Y = 01 reads 1300. -/
theorem test_absY_crosses_page :
    nextIs (exec (.ldaAbsY 0x12FF) (poke { idleAt [] with y := 0x01 } 0x1300 0x80))
      (fun t => t.a == 0x80 && t.flagN && t.ia == 0x1300 && t.cycles == 6) = true := by decide

/-! ## Branches, halt, flags: 45_control_flags -/

/-- The examples of R321–R326 and R328: at 0x0200, taken and not. -/
theorem test_branches :
    nextIs (exec (.bpl 0x0E) (idleAt [])) (fun t => t.pc == 0x0210 && t.cycles == 3) = true ∧
    nextIs (exec (.bmi 0x02) { idleAt [] with flagN := true }) (fun t => t.pc == 0x0204) = true ∧
    nextIs (exec (.bvc 0x10) { idleAt [] with flagV := true }) (fun t => t.pc == 0x0202) = true ∧
    nextIs (exec (.bvs 0x10) { idleAt [] with flagV := true }) (fun t => t.pc == 0x0212) = true ∧
    nextIs (exec (.bcc 0x02) { idleAt [] with pc := 0x0201 }) (fun t => t.pc == 0x0205) = true ∧
    nextIs (exec (.bcs 0x80) { idleAt [] with flagC := true }) (fun t => t.pc == 0x0182) = true ∧
    nextIs (exec (.beq 0xFE) (idleAt [])) (fun t => t.pc == 0x0202 && t.cycles == 3) = true := by decide

/-- R327: at 0x0208, FA targets 0x0204; R328: at 0xFFFE, 01 targets 0x0001. -/
theorem test_branch_targets_wrap :
    nextIs (exec (.bne 0xFA) { idleAt [] with pc := 0x0208 }) (fun t => t.pc == 0x0204) = true ∧
    nextIs (exec (.beq 0x01) { idleAt [] with pc := 0xFFFE, flagZ := true }) (fun t => t.pc == 0x0001) = true := by decide

/-- R329, R330: BRK halts with PC past the opcode, NOP does nothing; two ticks each. -/
theorem test_brk_nop :
    nextIs (step (idleAt [0x00])) (fun t => t.halted && t.pc == 0x0201 && t.cycles == 2 && t.queue == []) = true ∧
    nextIs (step (idleAt [0xEA]))
      (fun t => t == { idleAt [0xEA] with pc := 0x0201, cycles := 2 }) = true := by decide

/-- R331–R337: each flag instruction. -/
theorem test_flags :
    nextIs (exec .sec State.reset) (fun t => t.flagC) = true ∧ nextIs (exec .sed State.reset) (fun t => t.flagD) = true ∧
    nextIs (exec .sei State.reset) (fun t => t.flagI) = true ∧
    nextIs (exec .clc { State.reset with flagC := true }) (fun t => !t.flagC) = true ∧
    nextIs (exec .cld { State.reset with flagD := true }) (fun t => !t.flagD) = true ∧
    nextIs (exec .cli { State.reset with flagI := true }) (fun t => !t.flagI) = true ∧
    nextIs (exec .clv { State.reset with flagV := true }) (fun t => !t.flagV) = true := by decide

/-! ## Boot, faults, the bus -/

/-- 70 R454: with [00 02] at FFFC, after exactly 3 ticks PC = 0200 and the user cycles are 0. -/
theorem test_boot :
    nextIs (tickRun 3 (poke State.reset 0xFFFD 0x02))
      (fun t => t.pc == 0x0200 && t.queue == [] && t.userCycles == 0 && !t.halted) = true := by decide

/-- 70 R453, scenario B, from the boot on: `EA 00` takes 7 ticks, 4 user ticks, and halts at 0202. -/
theorem test_scenario_b :
    nextIs (tickRun 4 { idleAt [0xEA, 0x00] with cycles := 3 })
      (fun t => t.halted && t.tickReturn == (0x0202, true) && t.cycles == 7 && t.userCycles == 4) = true := by decide

/-- 40 R160: bytes 34, 12 give IA = 1234 whatever IA held. -/
theorem test_address_assembly :
    nextIs (tickRun 2 { idleAt [0x34, 0x12] with queue := [.fetchAddrLo, .fetchAddrHi], ia := 0xFFFF })
      (fun t => t.ia == 0x1234 && t.pc == 0x0202) = true := by decide

/-- 2.9: the unpopulated byte 02 at 0200: DecodeError with opcode 02 and address 0200, PC = 0201, later ticks
refused. -/
theorem test_decode_error :
    (match step (idleAt [0x02]) with
      | .fault (.decodeError op addr after) =>
        op == 0x02 && addr == 0x0200 && after.pc == 0x0201 && after.cycles == 1 && after.queue == [] &&
          (match tick after with | .refused r => r == .tickAfterStop | _ => false)
      | _ => false) = true := by decide

/-- 2.8: under SHOWN, `ADC #$01` (69 01) raises DecodeError. -/
theorem test_shown_decode_error :
    (match step { idleAt [0x69, 0x01] with opcodeSet := .shown } with
      | .fault (.decodeError op addr _) => op == 0x69 && addr == 0x0200
      | _ => false) = true := by decide

/-- 60_exceptions R400: the codes 1, 2 and 3; TickAfterStop has none. -/
theorem test_fault_codes :
    FaultRecord.code (.decodeError 0x02 0x0200) = 1 ∧ FaultRecord.code (.unimplementedOperation .nop 0x0200) = 2 ∧
    Refusal.code (.invariantViolation 0xA9 .selfStore) = some 3 ∧ Refusal.code .tickAfterStop = none := by decide

/-- V8: D1 = Memory 0000–00FF, D2 = Memory 0080–017F: a write in the overlap reaches both; a read there returns D1's
value, and D2's where only D2 covers. -/
theorem test_fan_out :
    (let d1 : Memory := { lower := 0x0000, upper := 0x00FF, cells := [] }
     let d2 : Memory := { lower := 0x0080, upper := 0x017F, cells := [] }
     let ds := busWrite [.memory d1, .memory d2] 0x0090 0x11
     ds == [.memory (d1.write 0x0090 0x11), .memory (d2.write 0x0090 0x11)] &&
       (busRead [.memory (d1.write 0x0090 0x11), .memory (d2.write 0x0090 0x22)] 0x0090).1 == 0x11 &&
       (busRead [.memory d1, .memory (d2.write 0x0150 0x33)] 0x0150).1 == 0x33 &&
       (busRead [.memory d1, .memory d2] 0x0200).1 == 0x00) = true := by decide

/-- 20_memory R72: a bulk load up to the last address is accepted, one past it refused, an empty one accepted. -/
theorem test_bulk_load :
    (let m : Memory := { lower := 0x10, upper := 0x12, cells := [] }
     m.bulkLoad 0x11 [1, 2] == some { m with cells := [(0x11, 1), (0x12, 2)] } && m.bulkLoad 0x11 [1, 2, 3] == none &&
       m.bulkLoad 0x0F [1] == none && m.bulkLoad 0x00 [] == some m &&
       (m.write 0x11 7).dump 0x10 0x12 == some [0, 7, 0]) = true := by decide

/-! ## Witnesses: each statement's hypotheses hold together somewhere -/

theorem idleAt_idle (bytes : List Byte) : (idleAt bytes).idle := ⟨rfl, rfl, rfl⟩

theorem idleAt_memoryOnly (bytes : List Byte) : (idleAt bytes).memoryOnly := by
  intro d hd
  simp [idleAt] at hd
  exact ⟨_, hd⟩

theorem reset_devicesWf : ∀ d ∈ State.reset.devices, d.wf = true := by decide

theorem reset_inv : State.reset.Inv := ⟨reset_devicesWf, .inl (List.suffix_refl _)⟩

/-- An invariant state between instructions, at a `LDA #$AA`. -/
def invIdle : State := idleAt [0xA9, 0xAA]

theorem invIdle_inv : invIdle.Inv := ⟨by decide, .inl ⟨bootSequence, rfl⟩⟩

theorem witness_StoppedCoreRefusesTicks :
    ({ State.reset with halted := true } : State).halted = true ∧
    ({ State.reset with fault := some (.decodeError 0x02 0x0200) } : State).fault ≠ none := by decide

theorem witness_AcceptedTickCountsOneCycle :
    (stateAfter (tick State.reset)).isSome = true ∧ (stateAfter (tick (idleAt [0x02]))).isSome = true ∧
    stateAfter (tick { State.reset with halted := true }) = none := by decide

theorem witness_FetchOpcodeEnqueuesExpansion :
    (idleAt [0x00]).idle ∧ (tableEntry .completed ((idleAt [0x00]).peek 0x0200)).isSome = true ∧
    (tableEntry .completed ((idleAt [0xFE]).peek 0x0200)).isSome = true ∧
    tableEntry .completed ((idleAt [0x02]).peek 0x0200) = none := ⟨idleAt_idle _, by decide⟩

theorem witness_DecodeErrorOnUnpopulatedOpcode :
    (idleAt [0xFF]).idle ∧ (idleAt [0xFF]).memoryOnly ∧
    tableEntry (idleAt [0xFF]).opcodeSet ((idleAt [0xFF]).peek (idleAt [0xFF]).pc) = none ∧
    tableEntry (idleAt [0x02]).opcodeSet ((idleAt [0x02]).peek (idleAt [0x02]).pc) = none :=
  ⟨idleAt_idle _, idleAt_memoryOnly _, by decide⟩

/-- The first clause at a stack opcode (30_encoding R108); the second at the fault that tick raises. -/
theorem witness_DecodeErrorOnAnyBus :
    ((idleAt [0x48]).idle ∧
      tableEntry (idleAt [0x48]).opcodeSet ((idleAt [0x48]).peek (idleAt [0x48]).pc) = none) ∧
    ∃ after, tick (idleAt [0x48]) = .fault (.decodeError 0x48 0x0200 after) :=
  ⟨⟨idleAt_idle _, by decide⟩, _, rfl⟩

theorem witness_IllFormedMicroOpFaults :
    ({ State.reset with queue := [.storeToRegister .a .a] } : State).stopped = false ∧
    (MicroOp.storeToRegister .a .a).wf = false := by decide

theorem witness_AddressAssemblyOverwrites :
    (let s : State := { idleAt [0x34, 0x12] with queue := [.fetchAddrLo, .fetchAddrHi, .jumpToAddress] }
     s.stopped = false ∧ s.queue = .fetchAddrLo :: .fetchAddrHi :: [.jumpToAddress] ∧
     (busRead s.devices s.pc).1 = 0x34 ∧ (busRead (busRead s.devices s.pc).2 (s.pc + 1)).1 = 0x12) := by decide

/-- Each clause at its boundary: 0080 + FF stays in page zero (40 R153), FFFF + 01 wraps to 0000 (R154). -/
theorem witness_AddressIndexingWraps :
    nextIs (tick { State.reset with queue := [.incrementAddressByReg .x .zeroPage], ia := 0x0080, x := 0xFF })
      (fun t => t.ia == 0x007F) = true ∧
    nextIs (tick { State.reset with queue := [.incrementAddressByReg .y .full], ia := 0xFFFF, y := 0x01 })
      (fun t => t.ia == 0x0000) = true := by decide

theorem witness_DecodeOfEncodeIsInstruction :
    (Instr.staZpX 0x01).wf .shown = true ∧ (Instr.incAbsX 0xFFFF).wf .completed = true := by decide

theorem witness_EncodeOfDecodeIsBytes :
    decodeIn .shown [0x95, 0x01, 0x7F] = .ok (.staZpX 0x01, [0x7F]) ∧
    decodeIn .completed [0xFE, 0xFF, 0xFF] = .ok (.incAbsX 0xFFFF, []) := by decide

theorem witness_StepRunsDecodedInstruction :
    invIdle.idle ∧ invIdle.memoryOnly ∧ decodeIn invIdle.opcodeSet invIdle.streamBytes = .ok (.ldaImm 0xAA, [0x00]) :=
  ⟨idleAt_idle _, idleAt_memoryOnly _, by decide⟩

theorem witness_StepOfPendingOrStoppedIsTick :
    State.reset.queue ≠ [] ∧ ({ idleAt [] with halted := true } : State).stopped = true := by decide

theorem witness_StepIsInstructionsTicks :
    (idleAt [0xFE, 0xFF, 0xFF]).idle ∧
    decodeIn .completed (idleAt [0xFE, 0xFF, 0xFF]).streamBytes = .ok (.incAbsX 0xFFFF, []) :=
  ⟨idleAt_idle _, by decide⟩

theorem witness_EveryInstructionCompletes : transfersControl (.ldaImm 0xAA) = false := by decide

theorem witness_ConstructionMeetsInvariant : ∀ d ∈ [Device.memory .whole, .other 0 []], d.wf = true := by decide

theorem witness_TickKeepsInvariant : State.reset.Inv ∧ ∃ t, tick State.reset = .next t := ⟨reset_inv, _, rfl⟩

theorem witness_StepKeepsInvariant : invIdle.Inv ∧ nextIs (step invIdle) (fun t => t.a == 0xAA) = true :=
  ⟨invIdle_inv, by decide⟩

theorem witness_HostOperationsKeepInvariant :
    State.reset.Inv ∧ nextIs (bulkLoad 0 0xFFFE [1, 2] State.reset) (fun t => t.peek 0xFFFF == 2) = true ∧
    nextIs (register (.memory .whole) State.reset) (fun t => t.devices.length == 2) = true := ⟨reset_inv, by decide⟩

/-- The bound is met: after the opcode fetch of `ORA ($nn,X)` Q holds 6 micro-ops. -/
theorem witness_QueueLengthAtMostSix :
    nextIs (tick (idleAt [0x01])) (fun t => t.queue.length == 6) = true := by decide

theorem witness_PlatformIsFixed :
    nextIs (tick State.reset) (fun t => t.cycles == 1) = true ∧ nextIs (step invIdle) (fun t => t.cycles == 3) = true := by
  decide

theorem witness_BusReadTakesFirstReadable :
    (∀ e ∈ [Device.memory { lower := 0, upper := 0xFF, cells := [] }], e.isReadableFor 0x0100 = false) ∧
    (Device.memory .whole).isReadableFor 0x0100 = true := by decide

theorem witness_BusWriteReachesEveryWritable :
    ∀ e ∈ [Device.memory { lower := 0, upper := 0xFF, cells := [] }], e.isWritableFor 0x0100 = false := by decide

theorem witness_MemoryRoundTrip :
    (let before : List Device := [.memory { lower := 0, upper := 0xFF, cells := [] }]
     Memory.whole.wf = true ∧ Memory.whole.covers 0xFFFF = true ∧
     ∀ e ∈ before, (if e.isWritableFor 0xFFFF then e.doWrite 0xFFFF 0x42 else e).isReadableFor 0xFFFF = false) := by
  decide

theorem witness_MemoryWriteLeavesOtherAddresses :
    (idleAt []).memoryOnly ∧ (0xFFFF : Addr) ≠ 0x0000 ∧
    ((idleAt []).memWrite 0x0000 0x42).peek 0xFFFF = 0x00 := ⟨idleAt_memoryOnly _, by decide⟩

/-- Each clause at its boundary: the load that ends on `upper` is accepted, the one past it is refused. -/
theorem witness_BulkLoadStoresOrRefuses :
    Memory.whole.wf = true ∧ (Memory.whole.bulkLoad 0xFFFE [1, 2]).isSome = true ∧
    Memory.whole.bulkLoad 0xFFFE [1, 2, 3] = none ∧ Memory.whole.bulkLoad 0xFFFF [] = some Memory.whole := by decide

/-- The boundary: the pointer at 10FF takes its high byte from 1000 (40 R156). -/
theorem witness_PointerFormsReadSamePage : (eaIndirect 0x10FF (poke (idleAt []) 0x1000 0x03)).ia = 0x0300 := by decide

/-- A good table, one with two rows for an opcode, and one for each check (b), (c) and (d). -/
theorem witness_TableChecksDecideConstruction :
    failedTableCheck shownTable = none ∧
    failedTableCheck [row 0x01 "T" .implied [.nop], row 0x01 "U" .implied [.nop]] = some (0x01, .duplicateOpcode) ∧
    failedTableCheck [row 0x01 "T" .implied [.storeToRegister .x .x]] = some (0x01, .selfStore) ∧
    failedTableCheck [row 0x01 "T" .implied [.computeAndStore .a .a .compare]] =
      some (0x01, .compareInComputeAndStore) ∧
    failedTableCheck [row 0x01 "T" .implied [.bitTest .x]] = some (0x01, .payloadDomain) := by decide

theorem witness_ConstructionSetsEveryField :
    failedTableCheck [row 0x01 "T" .implied [.storeToRegister .x .x]] = some (0x01, .selfStore) := by decide

theorem witness_ShownTableHasSourceEntries : (tableEntry .shown 0x95).isSome = true := by decide

/-- A form that stores and one that does not. -/
theorem witness_MemoryFrameOfEveryInstruction :
    (idleAt []).memoryOnly ∧ (∃ t, exec (.staZpX 0x80) (idleAt []) = .next t) ∧
    storeTarget (.staZpX 0x80) { idleAt [] with x := 0xFF } = some 0x007F ∧
    (∃ t, exec (.cmpImm 0x80) (idleAt []) = .next t) ∧ storeTarget (.cmpImm 0x80) (idleAt []) = none :=
  ⟨idleAt_memoryOnly _, ⟨_, rfl⟩, by decide, ⟨_, rfl⟩, by decide⟩

theorem witness_RegisterFrameOfEveryInstruction :
    (∃ t, exec (.cmpImm 0x80) State.reset = .next t) ∧ writesA (.cmpImm 0x80) = false ∧
    writesX (.cmpImm 0x80) = false ∧ writesY (.cmpImm 0x80) = false := ⟨⟨_, rfl⟩, by decide⟩

theorem witness_FlagWritersAreTheTables :
    (∃ t, exec .nop State.reset = .next t) ∧ keepsNZ .nop = true ∧ isAddSubtract .nop = false ∧
    isBitTest .nop = false ∧ isCompare .nop = false ∧ isShift .nop = false := ⟨⟨_, rfl⟩, by decide⟩

theorem witness_DecimalAndInterruptFlagsAreStorage :
    ∃ t, exec (.adcImm 0x01) { State.reset with flagD := true } = .next t := ⟨_, rfl⟩

/-- One witness for each clause: LDA #$AA steps; the stack opcode 48 is a DecodeError. -/
theorem witness_StagingRegistersNeverReachResults :
    (invIdle.idle ∧ nextIs (step invIdle) (fun t => t.a == 0xAA) = true) ∧
    (idleAt [0x48]).idle ∧ ∃ after, step (idleAt [0x48]) = .fault (.decodeError 0x48 0x0200 after) :=
  ⟨⟨idleAt_idle _, by decide⟩, idleAt_idle _, _, rfl⟩

end Sys2Proof.Tests
end

section
/-! SUPPORT. `exec` read off the Instruction Table (spec 30_encoding R104, R105): an instruction is its mode's operand
form and then, one by one, the semantic micro-ops of its table entry. What a proof needs to know about the 142 arms of
`exec` it asks of the table's entry instead. -/

namespace Sys2Proof.Machine

/-- What an addressing mode leaves in IA and IO, given the operand bytes (R110–R120); for Relative, the branch too. -/
def Mode.stage (m : Mode) (imm8 : Byte) (addr : Addr) (s : State) : State :=
  match m with
  | .accumulator => s
  | .implied => s
  | .immediate => Machine.immediate imm8 s
  | .zeroPage => eaZeroPage imm8 s
  | .zeroPageX => eaZeroPageX imm8 s
  | .zeroPageY => eaZeroPageY imm8 s
  | .absolute => eaAbsolute addr s
  | .absoluteX => eaAbsoluteX addr s
  | .absoluteY => eaAbsoluteY addr s
  | .indirect => eaIndirect addr s
  | .indexedIndirect => eaIndexedIndirect imm8 s
  | .indirectIndexed => eaIndirectIndexed imm8 s
  | .relative cond => incrementPCBySignedOperand cond (Machine.immediate imm8 s)

/-- The state a micro-op leaves. FetchOpcode alone can fault (`microOpEffect_eq_apply`); there it is the state before. -/
def MicroOp.apply (u : MicroOp) (s : State) : State :=
  match microOpEffect u s with
  | .next t => t
  | .fault _ => s
  | .refused _ => s

/-- The state some micro-ops leave, executed in order. -/
def runOps (ops : List MicroOp) (s : State) : State := ops.foldl (fun t u => u.apply t) s

end Sys2Proof.Machine

namespace Sys2Proof

open Machine

/-- The opcode byte. -/
def Instr.opcode (i : Instr) : Byte := (encode i).headD 0

/-- The first operand byte, 0 where there is none. -/
def Instr.imm8 (i : Instr) : Byte := (encode i).tail.headD 0

/-- The address the two operand bytes give, low byte first (R100). -/
def Instr.address (i : Instr) : Addr := addrOf ((encode i).tail.tail.headD 0) ((encode i).tail.headD 0)

/-- The instruction's entry in COMPLETED (`tableEntry_opcode` says there is one). -/
def Instr.entry (i : Instr) : Entry :=
  (tableEntry .completed i.opcode).getD { mnemonic := "", mode := .implied, expansion := [] }

/-- The semantic micro-ops of the expansion: those after the mode's fetch micro-ops (R105). -/
def Instr.suffix (i : Instr) : List MicroOp := i.entry.expansion.drop i.entry.mode.fetchOps.length

/-- The state in which the semantic micro-ops begin: PC and cycles moved past the instruction, IA and IO staged. -/
def Instr.stage (i : Instr) (s : State) : State :=
  i.entry.mode.stage i.imm8 i.address (s.advance i.length (Machine.Instr.ticks i))

theorem tableEntry_opcode (i : Instr) : tableEntry .completed i.opcode = some i.entry := by
  cases i <;> simp only [Instr.entry, Instr.opcode, encode, List.headD_cons] <;> rfl

/-- Every instruction answers the state its table entry says. -/
theorem exec_eq_runOps (i : Instr) (s : State) : exec i s = .next (runOps i.suffix (i.stage s)) := by
  cases i <;>
    simp only [Instr.stage, Instr.suffix, Instr.entry, Instr.opcode, Instr.address, Machine.Instr.ticks,
      Instr.length, encode, List.headD_cons, List.head?_cons, List.tail_cons, addrOf_hiByte_loByte] <;>
    rfl

theorem eq_runOps_of_exec {i : Instr} {s t : State} (h : exec i s = .next t) : t = runOps i.suffix (i.stage s) := by
  rw [exec_eq_runOps] at h
  exact (Host.Outcome.next.inj h).symm

end Sys2Proof

namespace Sys2Proof.Machine

theorem microOpEffect_eq_apply {u : MicroOp} (h : u ≠ .fetchOpcode) (s : State) :
    microOpEffect u s = .next (u.apply s) := by
  obtain ⟨t, ht, -⟩ := microOpEffect_keeps h s
  simp [MicroOp.apply, ht]

theorem MicroOp.apply_keeps {u : MicroOp} (h : u ≠ .fetchOpcode) (s : State) : Keeps s (u.apply s) := by
  obtain ⟨t, ht, k⟩ := microOpEffect_keeps h s
  rw [microOpEffect_eq_apply h] at ht
  exact Host.Outcome.next.inj ht ▸ k

/-- What FetchOpcode leaves: one byte read and more in Q, or the state before where it faults. -/
theorem apply_fetchOpcode (s : State) :
    MicroOp.fetchOpcode.apply s = s ∨ ∃ q, MicroOp.fetchOpcode.apply s = { s.fetchByte.2 with queue := q } := by
  simp only [MicroOp.apply, microOpEffect, fetchOpcode]
  cases tableEntry s.opcodeSet s.fetchByte.1 with
  | none => exact .inl rfl
  | some e => exact .inr ⟨_, rfl⟩

theorem runOps_cons (u : MicroOp) (ops : List MicroOp) (s : State) :
    runOps (u :: ops) s = runOps ops (u.apply s) := rfl

/-- What every one of the micro-ops leaves as it is, their run leaves as it is. -/
theorem runOps_frame {α : Type} (field : State → α) : ∀ {ops : List MicroOp} (s : State),
    (∀ u ∈ ops, ∀ t, field (u.apply t) = field t) → field (runOps ops s) = field s := by
  intro ops
  induction ops with
  | nil => intro s _; rfl
  | cons u ops ih =>
    intro s h
    rw [runOps_cons, ih _ fun v hv => h v (by simp [hv]), h u (by simp)]

theorem runOps_keeps : ∀ {ops : List MicroOp} (s : State), .fetchOpcode ∉ ops → Keeps s (runOps ops s) := by
  intro ops
  induction ops with
  | nil => intro s _; exact .refl s
  | cons u ops ih =>
    intro s h
    obtain ⟨hu, hops⟩ := not_or.mp (mt List.mem_cons.mpr h)
    exact (MicroOp.apply_keeps (Ne.symm hu) s).trans (ih _ hops)

/-- From `s` to `t` A, X, Y, the flags and the construction parameters stay, and no fault is raised. -/
def KeepsRegsFlags (s t : State) : Prop :=
  ∃ pc ia io queue halted cycles devices,
    t = { s with pc := pc, ia := ia, io := io, queue := queue, halted := halted, cycles := cycles, devices := devices }

theorem KeepsRegsFlags.refl (s : State) : KeepsRegsFlags s s := ⟨_, _, _, _, _, _, _, rfl⟩

theorem KeepsRegsFlags.trans {s t u : State} (h : KeepsRegsFlags s t) (k : KeepsRegsFlags t u) :
    KeepsRegsFlags s u := by
  obtain ⟨_, _, _, _, _, _, _, rfl⟩ := h
  obtain ⟨_, _, _, _, _, _, _, rfl⟩ := k
  exact ⟨_, _, _, _, _, _, _, rfl⟩

theorem KeepsRegsFlags.getReg {s t : State} (h : KeepsRegsFlags s t) {r : Reg8} (hr : r ≠ .internalOperand) :
    t.getReg r = s.getReg r := by
  obtain ⟨_, _, _, _, _, _, _, rfl⟩ := h
  cases r with
  | internalOperand => exact absurd rfl hr
  | _ => rfl

theorem KeepsRegsFlags.getFlag {s t : State} (h : KeepsRegsFlags s t) (f : Flag) : t.getFlag f = s.getFlag f := by
  obtain ⟨_, _, _, _, _, _, _, rfl⟩ := h
  cases f <;> rfl

theorem dereference_keepsRegsFlags (s : State) : KeepsRegsFlags s (dereference s) :=
  KeepsRegsFlags.trans (t := readAddressLo s) ⟨_, _, _, _, _, _, _, rfl⟩ ⟨_, _, _, _, _, _, _, rfl⟩

theorem incrementPCBySignedOperand_keepsRegsFlags (cond : Cond) (s : State) :
    KeepsRegsFlags s (incrementPCBySignedOperand cond s) := by
  simp only [incrementPCBySignedOperand]
  split
  · exact ⟨_, _, _, _, _, _, _, rfl⟩
  · exact .refl s

theorem Mode.stage_keepsRegsFlags (m : Mode) (imm8 : Byte) (addr : Addr) (s : State) :
    KeepsRegsFlags s (m.stage imm8 addr s) := by
  have single : ∀ {ia io}, KeepsRegsFlags s { s with ia := ia, io := io } := ⟨_, _, _, _, _, _, _, rfl⟩
  cases m with
  | indirect => exact single.trans (dereference_keepsRegsFlags (eaAbsolute addr s))
  | indexedIndirect => exact single.trans (dereference_keepsRegsFlags (eaZeroPageX imm8 s))
  | indirectIndexed =>
    exact (single.trans (dereference_keepsRegsFlags (eaZeroPage imm8 s))).trans ⟨_, _, _, _, _, _, _, rfl⟩
  | relative cond => exact single.trans (incrementPCBySignedOperand_keepsRegsFlags cond (Machine.immediate imm8 s))
  | _ => exact single

theorem Instr.stage_keepsRegsFlags (i : Instr) (s : State) : KeepsRegsFlags s (i.stage s) :=
  KeepsRegsFlags.trans ⟨_, _, _, _, _, _, _, rfl⟩ (Mode.stage_keepsRegsFlags _ _ _ (s.advance _ _))

theorem Mode.stage_keeps (m : Mode) (imm8 : Byte) (addr : Addr) (s : State) : Keeps s (m.stage imm8 addr s) := by
  cases m with
  | accumulator => exact .refl s
  | implied => exact .refl s
  | immediate => exact immediate_keeps imm8 s
  | zeroPage => exact eaZeroPage_keeps imm8 s
  | zeroPageX => exact eaZeroPageX_keeps imm8 s
  | zeroPageY => exact eaZeroPageY_keeps imm8 s
  | absolute => exact eaAbsolute_keeps addr s
  | absoluteX => exact eaAbsoluteX_keeps addr s
  | absoluteY => exact eaAbsoluteY_keeps addr s
  | indirect => exact eaIndirect_keeps addr s
  | indexedIndirect => exact eaIndexedIndirect_keeps imm8 s
  | indirectIndexed => exact eaIndirectIndexed_keeps imm8 s
  | relative cond => exact (immediate_keeps imm8 s).trans (incrementPCBySignedOperand_keeps cond _)

/-- A step that answers next was a tick, or ran the instruction its bytes decode to. -/
theorem step_cases {s t : State} (h : step s = .next t) :
    tick s = .next t ∨
    ∃ i rest, s.queue = [] ∧ decodeIn s.opcodeSet s.streamBytes = .ok (i, rest) ∧
      exec i (s.afterFetch i.length) = .next t := by
  unfold step at h
  split at h
  · cases h
  · split at h
    · exact .inl h
    · next hq =>
      split at h
      · next i rest hd => exact .inr ⟨i, rest, hq, hd, h⟩
      · exact .inl h

end Sys2Proof.Machine
end

section
/-! SUPPORT. The invariant (spec 10_state R44, 20_memory R69–R71): what the table's expansions have in common, and that
construction, every tick and every step keep memory canonical and Q the rest of one expansion. -/

namespace Sys2Proof.Machine

/-! ## The table's expansions -/

theorem lookupEntry_mem : ∀ {rows : List TableRow} {op : Byte} {e : Entry},
    lookupEntry rows op = some e → ∃ r ∈ rows, r.entry = e := by
  intro rows op e
  induction rows with
  | nil => intro h; cases h
  | cons r rows ih =>
    intro h
    simp only [lookupEntry] at h
    split at h
    · exact ⟨r, by simp, Option.some.inj h⟩
    · obtain ⟨q, hq, he⟩ := ih h
      exact ⟨q, by simp [hq], he⟩

theorem tableEntry_mem {set : OpcodeSet} {op : Byte} {e : Entry} (h : tableEntry set op = some e) :
    ∃ r ∈ instructionTable set, r.entry = e :=
  lookupEntry_mem (tableEntry_eq_lookup set op ▸ h)

set_option maxRecDepth 20000 in
theorem fetchOpcode_not_mem_expansion (set : OpcodeSet) :
    ∀ r ∈ instructionTable set, MicroOp.fetchOpcode ∉ r.entry.expansion := by
  cases set <;> decide

set_option maxRecDepth 20000 in
theorem expansion_length_le_six (set : OpcodeSet) :
    ∀ r ∈ instructionTable set, r.entry.expansion.length ≤ 6 := by
  cases set <;> decide

theorem fetchOpcode_not_mem_suffix (i : Instr) : MicroOp.fetchOpcode ∉ i.suffix := by
  obtain ⟨r, hr, he⟩ := tableEntry_mem (tableEntry_opcode i)
  intro h
  exact fetchOpcode_not_mem_expansion .completed r hr (he ▸ List.mem_of_mem_drop h)

/-! ## Q -/

theorem queueWf_nil (set : OpcodeSet) : queueWf set [] := .inl List.nil_suffix

theorem queueWf_of_tableEntry {set : OpcodeSet} {op : Byte} {e : Entry} (h : tableEntry set op = some e) :
    queueWf set e.expansion := by
  obtain ⟨r, hr, rfl⟩ := tableEntry_mem h
  exact .inr ⟨r, hr, List.suffix_rfl⟩

theorem queueWf_tail {set : OpcodeSet} {u : MicroOp} {rest : List MicroOp} (h : queueWf set (u :: rest)) :
    queueWf set rest := by
  obtain hb | ⟨r, hr, hs⟩ := h
  · exact .inl ((List.suffix_cons u rest).trans hb)
  · exact .inr ⟨r, hr, (List.suffix_cons u rest).trans hs⟩

/-- Q never holds a FetchOpcode: the tick makes one up when Q is empty (40_sequencer R141). -/
theorem fetchOpcode_not_mem_of_queueWf {set : OpcodeSet} {q : List MicroOp} (h : queueWf set q) :
    MicroOp.fetchOpcode ∉ q := by
  intro hm
  obtain hb | ⟨r, hr, hs⟩ := h
  · exact absurd (hb.mem hm) (by decide)
  · exact fetchOpcode_not_mem_expansion set r hr (hs.mem hm)

/-! ## The invariant -/

theorem Keeps.inv {s t : State} (k : Keeps s t) (h : s.Inv) : t.Inv :=
  ⟨k.devicesWf h.devicesWf, by rw [k.opcodeSet, k.queue]; exact h.queueOk⟩

theorem State.constructed_inv (set : OpcodeSet) (regs : ResetRegs) {devices : List Device}
    (h : ∀ d ∈ devices, d.wf = true) : (State.constructed set regs devices).Inv :=
  ⟨h, .inl List.suffix_rfl⟩

theorem executeMicroOp_inv {u : MicroOp} {s t : State} (hs : s.Inv) (hq : u = .fetchOpcode → s.queue = [])
    (h : executeMicroOp u s = .next t) : t.Inv := by
  obtain ⟨hu, e, he, hx⟩ | ⟨-, -, hx⟩ | ⟨-, -, v, hx, -, k⟩ | ⟨-, hx⟩ := executeMicroOp_cases u s <;> rw [hx] at h
  · obtain rfl := Host.Outcome.next.inj h
    exact ⟨s.fetchByte_keeps.devicesWf hs.devicesWf, by simpa [hq hu] using queueWf_of_tableEntry he⟩
  · cases h
  · obtain rfl := Host.Outcome.next.inj h
    exact k.inv hs
  · cases h

theorem tick_inv {s t : State} (hs : s.Inv) (h : tick s = .next t) : t.Inv := by
  have hstop : s.stopped = false := by
    by_contra hstop
    rw [tick, if_pos (by simpa using hstop)] at h
    cases h
  obtain ⟨u, rest, hq, hx⟩ := tick_executes hstop
  rw [hx] at h
  obtain ⟨-, -, rfl⟩ | hq := hq
  · exact executeMicroOp_inv (s := s.dequeue []) ⟨hs.devicesWf, queueWf_nil _⟩ (fun _ => rfl) h
  · have hwf : queueWf s.opcodeSet (u :: rest) := hq ▸ hs.queueOk
    have hu : u ≠ .fetchOpcode := fun e => fetchOpcode_not_mem_of_queueWf hwf (by simp [e])
    exact executeMicroOp_inv (s := s.dequeue rest) ⟨hs.devicesWf, queueWf_tail hwf⟩ (absurd · hu) h

theorem exec_inv {i : Instr} {s t : State} (hs : s.Inv) (h : exec i s = .next t) : t.Inv := by
  obtain rfl := eq_runOps_of_exec h
  have hadvance : (s.advance i.length (Machine.Instr.ticks i)).Inv := ⟨hs.devicesWf, hs.queueOk⟩
  exact (runOps_keeps _ (fetchOpcode_not_mem_suffix i)).inv ((Mode.stage_keeps _ _ _ _).inv hadvance)

/-- Settles O25: a tick executes the head of Q, which leaves the rest, or fetches an opcode, which enqueues one
expansion into an empty Q. -/
theorem tickKeepsInvariant : Obligations.TickKeepsInvariant := fun _ _ hs h => tick_inv hs h

/-- Settles O26: a step is a tick or a whole instruction, which leaves Q as it was. -/
theorem stepKeepsInvariant : Obligations.StepKeepsInvariant := by
  intro s t hs h
  obtain h | ⟨i, -, -, -, h⟩ := step_cases h
  · exact tick_inv hs h
  · exact exec_inv ((s.afterFetch_keeps _).inv hs) h

/-- Settles O28: no expansion of either table is longer than six micro-ops. -/
theorem queueLengthAtMostSix : Obligations.QueueLengthAtMostSix := by
  intro s hs
  obtain hb | ⟨r, hr, hq⟩ := hs.queueOk
  · exact hb.length_le.trans (by decide)
  · exact hq.length_le.trans (expansion_length_le_six _ r hr)

/-- Settles O24: Q starts as the boot sequence, and no device has been touched. -/
theorem constructionMeetsInvariant : Obligations.ConstructionMeetsInvariant :=
  ⟨State.constructed_inv _ _ (by simp [Device.wf, whole_wf]), fun set regs _ h => State.constructed_inv set regs h⟩

end Sys2Proof.Machine
end

section
/-! SUPPORT. The frame of every instruction (spec 10_state R30, R31, R37, R38): which registers and flags each micro-op
writes, that it leaves the others, and which instructions have such a micro-op in their suffix. -/

namespace Sys2Proof.Machine

open Sys2Proof.Claims

/-! ## What an operation leaves of the registers -/

@[simp] theorem State.getReg_setNZ (s : State) (v : Byte) (r : Reg8) : (s.setNZ v).getReg r = s.getReg r := by
  cases r <;> rfl

theorem storeToRegister_getReg_other (src : Reg8) {dst r : Reg8} (h : r ≠ dst) (s : State) :
    (storeToRegister src dst s).getReg r = s.getReg r := by
  cases dst with
  | internalOperand => exact s.getReg_setReg_other h _
  | _ => exact (State.getReg_setNZ _ _ _).trans (s.getReg_setReg_other h _)

theorem computeAndStore_getReg_other (left : Reg8) {dst r : Reg8} (h : r ≠ dst) (func : AluFunc) (s : State) :
    (computeAndStore left dst func s).getReg r = s.getReg r := by
  have hset : ∀ v : Byte, ((s.setReg dst v).setNZ v).getReg r = s.getReg r := fun v => by
    rw [State.getReg_setNZ, s.getReg_setReg_other h]
  simp only [computeAndStore]
  split
  · rw [← hset (func.apply (s.getReg left) s.io s.flagC).result]
    cases r <;> rfl
  · exact hset _

theorem modifyRegister_getReg_other {reg r : Reg8} (h : r ≠ reg) (func : ModifyFunc) (s : State) :
    (modifyRegister reg func s).getReg r = s.getReg r := by
  rw [← s.getReg_setReg_other h (func.result (s.getReg reg) s.flagC)]
  cases r <;> rfl

theorem State.getReg_putFlag (s : State) (f : Flag) (b : Bool) (r : Reg8) : (s.putFlag f b).getReg r = s.getReg r := by
  cases f <;> cases r <;> rfl

/-! ## What an operation leaves of the flags -/

@[simp] theorem State.getFlag_setReg (s : State) (r : Reg8) (v : Byte) (f : Flag) :
    (s.setReg r v).getFlag f = s.getFlag f := by
  cases r <;> cases f <;> rfl

theorem State.getFlag_setNZ_other (s : State) (v : Byte) {f : Flag} (hn : f ≠ .n) (hz : f ≠ .z) :
    (s.setNZ v).getFlag f = s.getFlag f := by
  cases f with
  | n => exact absurd rfl hn
  | z => exact absurd rfl hz
  | _ => rfl

theorem storeToRegister_getFlag_other (src dst : Reg8) {f : Flag} (hn : f ≠ .n) (hz : f ≠ .z) (s : State) :
    (storeToRegister src dst s).getFlag f = s.getFlag f := by
  cases dst with
  | internalOperand => exact s.getFlag_setReg _ _ f
  | _ => exact (State.getFlag_setNZ_other _ _ hn hz).trans (s.getFlag_setReg _ _ f)

theorem computeAndStore_getFlag_other (left dst : Reg8) (func : AluFunc) {f : Flag} (hn : f ≠ .n) (hz : f ≠ .z)
    (hcv : func.writesCarry = true → f ≠ .c ∧ f ≠ .v) (s : State) :
    (computeAndStore left dst func s).getFlag f = s.getFlag f := by
  have hset : ∀ v : Byte, ((s.setReg dst v).setNZ v).getFlag f = s.getFlag f := fun v => by
    rw [State.getFlag_setNZ_other _ _ hn hz, State.getFlag_setReg]
  simp only [computeAndStore]
  split
  · next hw =>
    rw [← hset (func.apply (s.getReg left) s.io s.flagC).result]
    cases f with
    | c => exact absurd rfl (hcv hw).1
    | v => exact absurd rfl (hcv hw).2
    | _ => rfl
  · exact hset _

theorem compareToRegister_getFlag_other (src reg2 : Reg8) {f : Flag} (hn : f ≠ .n) (hz : f ≠ .z) (hc : f ≠ .c)
    (s : State) : (compareToRegister src reg2 s).getFlag f = s.getFlag f := by
  cases f with
  | n => exact absurd rfl hn
  | z => exact absurd rfl hz
  | c => exact absurd rfl hc
  | _ => rfl

theorem bitTest_getFlag_other (reg : Reg8) {f : Flag} (hn : f ≠ .n) (hv : f ≠ .v) (hz : f ≠ .z) (s : State) :
    (bitTest reg s).getFlag f = s.getFlag f := by
  cases f with
  | n => exact absurd rfl hn
  | v => exact absurd rfl hv
  | z => exact absurd rfl hz
  | _ => rfl

/-- Whether ModifyRegister's function moves a bit into C: the shifts and rotates do (41_microops_alu R193). -/
def ModifyFunc.shifts : ModifyFunc → Bool
  | .increment | .decrement => false
  | .shiftLeft | .shiftRight | .rotateLeft | .rotateRight => true

theorem ModifyFunc.carry_of_not_shifts {func : ModifyFunc} (h : func.shifts = false) (v : Byte) (c : Bool) :
    func.carry v c = c := by
  cases func with
  | increment => rfl
  | decrement => rfl
  | _ => cases h

theorem modifyRegister_getFlag_other (reg : Reg8) (func : ModifyFunc) {f : Flag} (hn : f ≠ .n) (hz : f ≠ .z)
    (hc : func.shifts = true → f ≠ .c) (s : State) : (modifyRegister reg func s).getFlag f = s.getFlag f := by
  have hset := (State.getFlag_setNZ_other (s.setReg reg (func.result (s.getReg reg) s.flagC))
    (func.result (s.getReg reg) s.flagC) hn hz).trans (s.getFlag_setReg _ _ f)
  cases f with
  | c => exact ModifyFunc.carry_of_not_shifts (by simpa using hc) _ _
  | _ => exact hset

/-! ## What every micro-op writes -/

/-- Whether the micro-op writes `r`, one of A, X and Y (41_microops_alu R182, R186, R193). -/
def MicroOp.writesReg (r : Reg8) : MicroOp → Bool
  | .storeToRegister _ dst => dst == r
  | .computeAndStore _ dst _ => dst == r
  | .modifyRegister reg _ => reg == r
  | _ => false

/-- Whether the micro-op writes the flag (R185, R186, R191–R194). -/
def MicroOp.writesFlag (f : Flag) : MicroOp → Bool
  | .storeToRegister _ _ => f == .n || f == .z
  | .computeAndStore _ _ func => f == .n || f == .z || func.writesCarry && (f == .c || f == .v)
  | .compareToRegister _ _ => f == .n || f == .z || f == .c
  | .bitTest _ => f == .n || f == .v || f == .z
  | .modifyRegister _ func => f == .n || f == .z || func.shifts && f == .c
  | .setFlag flag _ => f == flag
  | _ => false

/-- The micro-ops that write a register or a flag of the program. -/
def MicroOp.computes : MicroOp → Bool
  | .storeToRegister _ _ | .computeAndStore _ _ _ | .modifyRegister _ _ => true
  | .compareToRegister _ _ | .bitTest _ | .setFlag _ _ => true
  | _ => false

theorem keepsRegsFlags_apply {u : MicroOp} (h : u.computes = false) (s : State) : KeepsRegsFlags s (u.apply s) := by
  cases u with
  | storeToRegister | computeAndStore | modifyRegister | compareToRegister | bitTest | setFlag => cases h
  | fetchOpcode =>
    obtain h | ⟨q, h⟩ := apply_fetchOpcode s <;> rw [h] <;> exact ⟨_, _, _, _, _, _, _, rfl⟩
  | incrementAddressByReg reg wrap => cases wrap <;> exact ⟨_, _, _, _, _, _, _, rfl⟩
  | incrementPCBySignedOperand cond => exact incrementPCBySignedOperand_keepsRegsFlags cond s
  | _ => exact ⟨_, _, _, _, _, _, _, rfl⟩

theorem getReg_apply {u : MicroOp} {r : Reg8} (hr : r ≠ .internalOperand) (h : u.writesReg r = false) (s : State) :
    (u.apply s).getReg r = s.getReg r := by
  have hne : ∀ {q : Reg8}, (q == r) = false → r ≠ q := fun h e => by simp [e] at h
  cases u with
  | storeToRegister src dst => exact storeToRegister_getReg_other src (hne h) s
  | computeAndStore left dst func => exact computeAndStore_getReg_other left (hne h) func s
  | modifyRegister reg func => exact modifyRegister_getReg_other (hne h) func s
  | compareToRegister => cases r <;> rfl
  | bitTest => cases r <;> rfl
  | setFlag flag value => exact s.getReg_putFlag flag value r
  | _ => exact (keepsRegsFlags_apply rfl s).getReg hr

theorem getFlag_apply {u : MicroOp} {f : Flag} (h : u.writesFlag f = false) (s : State) :
    (u.apply s).getFlag f = s.getFlag f := by
  cases u with
  | storeToRegister src dst =>
    obtain ⟨hn, hz⟩ : f ≠ .n ∧ f ≠ .z := by simpa [MicroOp.writesFlag] using h
    exact storeToRegister_getFlag_other src dst hn hz s
  | computeAndStore left dst func =>
    obtain ⟨⟨hn, hz⟩, hcv⟩ : (f ≠ .n ∧ f ≠ .z) ∧ (func.writesCarry = true → f ≠ .c ∧ f ≠ .v) := by
      simpa [MicroOp.writesFlag] using h
    exact computeAndStore_getFlag_other left dst func hn hz hcv s
  | compareToRegister src reg2 =>
    obtain ⟨⟨hn, hz⟩, hc⟩ : (f ≠ .n ∧ f ≠ .z) ∧ f ≠ .c := by simpa [MicroOp.writesFlag] using h
    exact compareToRegister_getFlag_other src reg2 hn hz hc s
  | bitTest reg =>
    obtain ⟨⟨hn, hv⟩, hz⟩ : (f ≠ .n ∧ f ≠ .v) ∧ f ≠ .z := by simpa [MicroOp.writesFlag] using h
    exact bitTest_getFlag_other reg hn hv hz s
  | modifyRegister reg func =>
    obtain ⟨⟨hn, hz⟩, hc⟩ : (f ≠ .n ∧ f ≠ .z) ∧ (func.shifts = true → f ≠ .c) := by
      simpa [MicroOp.writesFlag] using h
    exact modifyRegister_getFlag_other reg func hn hz hc s
  | setFlag flag value => exact State.getFlag_putFlag_other s (by simpa [MicroOp.writesFlag] using h) value
  | _ => exact (keepsRegsFlags_apply rfl s).getFlag f

/-! ## What every instruction writes -/

theorem exec_getReg_other {i : Instr} {s t : State} {r : Reg8} (he : exec i s = .next t) (hr : r ≠ .internalOperand)
    (h : i.suffix.any (MicroOp.writesReg r) = false) : t.getReg r = s.getReg r := by
  obtain rfl := eq_runOps_of_exec he
  rw [List.any_eq_false] at h
  rw [runOps_frame (State.getReg · r) _ fun u hu => getReg_apply hr (by simpa using h u hu),
    (Instr.stage_keepsRegsFlags i s).getReg hr]

theorem exec_getFlag_other {i : Instr} {s t : State} {f : Flag} (he : exec i s = .next t)
    (h : i.suffix.any (MicroOp.writesFlag f) = false) : t.getFlag f = s.getFlag f := by
  obtain rfl := eq_runOps_of_exec he
  rw [List.any_eq_false] at h
  rw [runOps_frame (State.getFlag · f) _ fun u hu => getFlag_apply (by simpa using h u hu),
    (Instr.stage_keepsRegsFlags i s).getFlag f]

theorem suffix_writesReg (i : Instr) :
    i.suffix.any (MicroOp.writesReg .a) = writesA i ∧ i.suffix.any (MicroOp.writesReg .x) = writesX i ∧
    i.suffix.any (MicroOp.writesReg .y) = writesY i := by
  cases i <;> simp only [Instr.suffix, Instr.entry, Instr.opcode, encode, List.headD_cons] <;> exact ⟨rfl, rfl, rfl⟩

theorem suffix_writesFlag (i : Instr) :
    i.suffix.any (MicroOp.writesFlag .n) = !keepsNZ i ∧ i.suffix.any (MicroOp.writesFlag .z) = !keepsNZ i ∧
    i.suffix.any (MicroOp.writesFlag .v) = (isAddSubtract i || isBitTest i || decide (i = .clv)) ∧
    i.suffix.any (MicroOp.writesFlag .c) =
      (isAddSubtract i || isCompare i || isShift i || decide (i = .clc) || decide (i = .sec)) ∧
    i.suffix.any (MicroOp.writesFlag .i) = (decide (i = .cli) || decide (i = .sei)) ∧
    i.suffix.any (MicroOp.writesFlag .d) = (decide (i = .cld) || decide (i = .sed)) := by
  cases i <;> simp only [Instr.suffix, Instr.entry, Instr.opcode, encode, List.headD_cons] <;>
    exact ⟨rfl, rfl, rfl, rfl, rfl, rfl⟩

/-- Settles O56: the table gives A, X and Y only the writers the statement lists. -/
theorem registerFrameOfEveryInstruction : Obligations.RegisterFrameOfEveryInstruction := by
  intro i s t he
  obtain ⟨ha, hx, hy⟩ := suffix_writesReg i
  refine ⟨fun h => ?_, fun h => ?_, fun h => ?_⟩
  · exact exec_getReg_other (r := .a) he (by decide) (ha.trans h)
  · exact exec_getReg_other (r := .x) he (by decide) (hx.trans h)
  · exact exec_getReg_other (r := .y) he (by decide) (hy.trans h)

/-- Settles O57: the table gives each flag only the writers the statement lists. -/
theorem flagWritersAreTheTables : Obligations.FlagWritersAreTheTables := by
  intro i s t he
  obtain ⟨hn, hz, hv, hc, hi, hd⟩ := suffix_writesFlag i
  refine ⟨fun h => ⟨?_, ?_⟩, fun h₁ h₂ h₃ => ?_, fun h₁ h₂ h₃ h₄ h₅ => ?_, fun h₁ h₂ => ?_, fun h₁ h₂ => ?_⟩
  · exact exec_getFlag_other (f := .n) he (by simp [hn, h])
  · exact exec_getFlag_other (f := .z) he (by simp [hz, h])
  · exact exec_getFlag_other (f := .v) he (by simp [hv, h₁, h₂, h₃])
  · exact exec_getFlag_other (f := .c) he (by simp [hc, h₁, h₂, h₃, h₄, h₅])
  · exact exec_getFlag_other (f := .i) he (by simp [hi, h₁, h₂])
  · exact exec_getFlag_other (f := .d) he (by simp [hd, h₁, h₂])

end Sys2Proof.Machine
end

section
/-! SUPPORT. Noninterference (spec 10_state R37, R43): no instruction reads what IA and IO held before it, and none reads
D or I. Two runs are compared that may differ in those four fields; `Known` says where they are known to agree. -/

namespace Sys2Proof.Machine

/-- The same state but for IA, IO, D and I. -/
def State.withHidden (s : State) (ia : Addr) (io : Byte) (d n : Bool) : State :=
  { s with ia := ia, io := io, flagD := d, flagI := n }

/-- Where two states that may differ in IA, IO, D and I are known to agree: in IA, in IO, in D and I. -/
structure Known where
  ia : Bool
  io : Bool
  di : Bool

/-- The two states differ at most in IA, IO, D and I, and in none of these that is known. -/
def Agree (k : Known) (s t : State) : Prop :=
  ∃ ia io d n, t = s.withHidden ia io d n ∧ (k.ia = true → ia = s.ia) ∧ (k.io = true → io = s.io) ∧
    (k.di = true → d = s.flagD ∧ n = s.flagI)

theorem Agree.weaken {k l : Known} {s t : State} (h : Agree l s t) (hia : k.ia = true → l.ia = true)
    (hio : k.io = true → l.io = true) (hdi : k.di = true → l.di = true) : Agree k s t := by
  obtain ⟨ia, io, d, n, ht, ha, ho, hd⟩ := h
  exact ⟨ia, io, d, n, ht, fun h => ha (hia h), fun h => ho (hio h), fun h => hd (hdi h)⟩

theorem State.getReg_withHidden (s : State) {ia : Addr} {io : Byte} {d n : Bool} {r : Reg8}
    (h : r = .internalOperand → io = s.io) : (s.withHidden ia io d n).getReg r = s.getReg r := by
  cases r with
  | internalOperand => exact h rfl
  | _ => rfl

/-! ## Micro-ops -/

/-- Whether a semantic micro-op reads of IA and IO only what is known. D and I none of them reads. -/
def MicroOp.readsKnown (k : Known) : MicroOp → Bool
  | .readOperand | .jumpToAddress => k.ia
  | .storeToRegister src _ => src != .internalOperand || k.io
  | .writeToAddress src addr => (src != .internalOperand || k.io) && (addr != .internalAddress || k.ia)
  | .computeAndStore _ _ _ | .compareToRegister _ _ | .bitTest _ => k.io
  | .modifyRegister reg _ => reg != .internalOperand || k.io
  | .setFlag _ _ | .nop | .brk => true
  | _ => false

/-- What is known after a semantic micro-op: ReadOperand loads IO. -/
def MicroOp.learn (k : Known) : MicroOp → Known
  | .readOperand => { k with io := true }
  | _ => k

theorem agree_apply {k : Known} {u : MicroOp} {s t : State} (hu : u.readsKnown k = true) (h : Agree k s t) :
    Agree (u.learn k) (u.apply s) (u.apply t) := by
  obtain ⟨ia, io, d, n, rfl, hia, hio, hdi⟩ := h
  have hreg : ∀ {r : Reg8}, (r != .internalOperand || k.io) = true →
      (s.withHidden ia io d n).getReg r = s.getReg r := fun h =>
    s.getReg_withHidden fun hr => hio (by simpa [hr] using h)
  cases u with
  | readOperand =>
    obtain rfl := hia hu
    exact ⟨_, _, d, n, rfl, fun _ => rfl, fun _ => rfl, hdi⟩
  | jumpToAddress =>
    obtain rfl := hia hu
    exact ⟨_, io, d, n, rfl, fun _ => rfl, hio, hdi⟩
  | storeToRegister src dst =>
    simp only [MicroOp.apply, microOpEffect, storeToRegister, hreg hu]
    cases dst with
    | internalOperand => exact ⟨ia, _, d, n, rfl, hia, fun _ => rfl, hdi⟩
    | _ => exact ⟨ia, io, d, n, rfl, hia, hio, hdi⟩
  | writeToAddress src addr =>
    obtain ⟨hsrc, haddr⟩ := Bool.and_eq_true_iff.mp hu
    have hread : (s.withHidden ia io d n).getAddrReg addr = s.getAddrReg addr := by
      cases addr with
      | pc => rfl
      | internalAddress => exact hia (by simpa using haddr)
    simp only [MicroOp.apply, microOpEffect, writeToAddress, hreg hsrc, hread]
    exact ⟨ia, io, d, n, rfl, hia, hio, hdi⟩
  | computeAndStore left dst func =>
    obtain rfl := hio hu
    have hleft : (s.withHidden ia s.io d n).getReg left = s.getReg left := s.getReg_withHidden fun _ => rfl
    simp only [MicroOp.apply, microOpEffect, computeAndStore, hleft]
    split <;> cases dst <;> exact ⟨ia, _, d, n, rfl, hia, fun _ => rfl, hdi⟩
  | compareToRegister src reg2 =>
    obtain rfl := hio hu
    cases src <;> cases reg2 <;> exact ⟨ia, _, d, n, rfl, hia, fun _ => rfl, hdi⟩
  | bitTest reg =>
    obtain rfl := hio hu
    cases reg <;> exact ⟨ia, _, d, n, rfl, hia, fun _ => rfl, hdi⟩
  | modifyRegister reg func =>
    simp only [MicroOp.apply, microOpEffect, modifyRegister, hreg hu]
    cases reg with
    | internalOperand => exact ⟨ia, _, d, n, rfl, hia, fun _ => rfl, hdi⟩
    | _ => exact ⟨ia, io, d, n, rfl, hia, hio, hdi⟩
  | setFlag flag value =>
    cases flag with
    | d => exact ⟨ia, io, value, n, rfl, hia, hio, fun h => ⟨rfl, (hdi h).2⟩⟩
    | i => exact ⟨ia, io, d, value, rfl, hia, hio, fun h => ⟨(hdi h).1, rfl⟩⟩
    | _ => exact ⟨ia, io, d, n, rfl, hia, hio, hdi⟩
  | nop => exact ⟨ia, io, d, n, rfl, hia, hio, hdi⟩
  | brk => exact ⟨ia, io, d, n, rfl, hia, hio, hdi⟩
  | _ => cases hu

/-- Whether some semantic micro-ops, in order, read of IA and IO only what is then known. -/
def opsReadKnown (k : Known) : List MicroOp → Bool
  | [] => true
  | u :: ops => u.readsKnown k && opsReadKnown (u.learn k) ops

theorem Agree.of_learn {k : Known} {u : MicroOp} {s t : State} (h : Agree (u.learn k) s t) : Agree k s t := by
  cases u with
  | readOperand => exact h.weaken id (fun _ => rfl) id
  | _ => exact h

theorem agree_runOps : ∀ {ops : List MicroOp} {k : Known} {s t : State}, opsReadKnown k ops = true → Agree k s t →
    Agree k (runOps ops s) (runOps ops t) := by
  intro ops
  induction ops with
  | nil => intro k s t _ h; exact h
  | cons u ops ih =>
    intro k s t hops h
    obtain ⟨hu, hrest⟩ := Bool.and_eq_true_iff.mp hops
    exact (ih hrest (agree_apply hu h)).of_learn

/-! ## Operand forms -/

/-- What is known after a mode's operand form: IO from an operand byte, IA from an address. -/
def Mode.learn (k : Known) : Mode → Known
  | .accumulator | .implied => k
  | .immediate | .relative _ => { k with io := true }
  | _ => { k with ia := true }

/-- Whether a branch's condition is on another flag than D and I (30_encoding R120, 40_sequencer R158). -/
def Mode.condVisible : Mode → Bool
  | .relative cond => cond.flag != .d && cond.flag != .i
  | _ => true

theorem agree_readAddressLo {k : Known} {s t : State} (hk : k.ia = true) (h : Agree k s t) :
    Agree { k with io := true } (readAddressLo s) (readAddressLo t) := by
  obtain ⟨ia, io, d, n, rfl, hia, -, hdi⟩ := h
  obtain rfl := hia hk
  exact ⟨_, _, d, n, rfl, fun _ => rfl, fun _ => rfl, hdi⟩

theorem agree_readAddressHi {k : Known} {s t : State} (ha : k.ia = true) (ho : k.io = true) (h : Agree k s t) :
    Agree k (readAddressHi s) (readAddressHi t) := by
  obtain ⟨ia, io, d, n, rfl, hia, hio, hdi⟩ := h
  obtain rfl := hia ha
  obtain rfl := hio ho
  exact ⟨_, _, d, n, rfl, fun _ => rfl, fun _ => rfl, hdi⟩

/-- From a known pointer the address stored there is known. -/
theorem agree_dereference {k : Known} {s t : State} (hk : k.ia = true) (h : Agree k s t) :
    Agree k (dereference s) (dereference t) :=
  (agree_readAddressHi (k := { k with io := true }) hk rfl (agree_readAddressLo hk h)).weaken id (fun _ => rfl) id

theorem agree_addYToAddress {k : Known} {s t : State} (hk : k.ia = true) (h : Agree k s t) :
    Agree k (addYToAddress s) (addYToAddress t) := by
  obtain ⟨ia, io, d, n, rfl, hia, hio, hdi⟩ := h
  obtain rfl := hia hk
  exact ⟨_, io, d, n, rfl, fun _ => rfl, hio, hdi⟩

theorem agree_incrementPCBySignedOperand {k : Known} {s t : State} {cond : Cond}
    (hc : (cond.flag != .d && cond.flag != .i) = true) (hk : k.io = true) (h : Agree k s t) :
    Agree k (incrementPCBySignedOperand cond s) (incrementPCBySignedOperand cond t) := by
  obtain ⟨ia, io, d, n, rfl, hia, hio, hdi⟩ := h
  obtain rfl := hio hk
  have hflag : (s.withHidden ia s.io d n).getFlag cond.flag = s.getFlag cond.flag := by
    cases hf : cond.flag with
    | d => simp [hf] at hc
    | i => simp [hf] at hc
    | _ => rfl
  simp only [incrementPCBySignedOperand, hflag]
  split <;> exact ⟨ia, _, d, n, rfl, hia, fun _ => rfl, hdi⟩

theorem agree_stage {k : Known} {m : Mode} (hm : m.condVisible = true) (imm8 : Byte) (addr : Addr) {s t : State}
    (h : Agree k s t) : Agree (m.learn k) (m.stage imm8 addr s) (m.stage imm8 addr t) := by
  obtain ⟨ia, io, d, n, rfl, hia, hio, hdi⟩ := h
  have staged : ∀ ea : Addr, Agree { k with ia := true } { s with ia := ea } { s.withHidden ia io d n with ia := ea } :=
    fun ea => ⟨ea, io, d, n, rfl, fun _ => rfl, hio, hdi⟩
  have loaded : Agree { k with io := true } (Machine.immediate imm8 s)
      (Machine.immediate imm8 (s.withHidden ia io d n)) := ⟨ia, imm8, d, n, rfl, hia, fun _ => rfl, hdi⟩
  cases m with
  | accumulator => exact ⟨ia, io, d, n, rfl, hia, hio, hdi⟩
  | implied => exact ⟨ia, io, d, n, rfl, hia, hio, hdi⟩
  | immediate => exact loaded
  | relative cond => exact agree_incrementPCBySignedOperand hm rfl loaded
  | indirect => exact agree_dereference rfl (staged addr)
  | indexedIndirect => exact agree_dereference rfl (staged (addrOf 0x00#8 (imm8 + s.x)))
  | indirectIndexed => exact agree_addYToAddress rfl (agree_dereference rfl (staged (addrOf 0x00#8 imm8)))
  | _ => exact staged _

theorem Agree.of_learn_mode {k : Known} {m : Mode} {s t : State} (h : Agree (m.learn k) s t) : Agree k s t := by
  cases m with
  | accumulator => exact h
  | implied => exact h
  | immediate => exact h.weaken id (fun _ => rfl) id
  | relative => exact h.weaken id (fun _ => rfl) id
  | _ => exact h.weaken (fun _ => rfl) id id

/-! ## Instructions -/

/-- No instruction reads IA or IO before it has written it, and none reads D or I. -/
theorem entry_readsKnown (k : Known) (i : Instr) :
    i.entry.mode.condVisible = true ∧ opsReadKnown (i.entry.mode.learn k) i.suffix = true := by
  cases i <;> simp only [Instr.suffix, Instr.entry, Instr.opcode, encode, List.headD_cons] <;> exact ⟨rfl, rfl⟩

/-- Two states that may differ in IA, IO, D and I run an instruction to two that may differ no further. -/
theorem agree_exec {k : Known} {i : Instr} {s t s' : State} (h : Agree k s t) (he : exec i s = .next s') :
    ∃ t', exec i t = .next t' ∧ Agree k s' t' := by
  obtain rfl := eq_runOps_of_exec he
  obtain ⟨hm, hops⟩ := entry_readsKnown k i
  have hadvance : Agree k (s.advance i.length (Machine.Instr.ticks i)) (t.advance i.length (Machine.Instr.ticks i)) := by
    obtain ⟨ia, io, d, n, rfl, hk⟩ := h
    exact ⟨ia, io, d, n, rfl, hk⟩
  exact ⟨_, exec_eq_runOps i t, (agree_runOps hops (agree_stage hm i.imm8 i.address hadvance)).of_learn_mode⟩

/-- Settles O58: the runs agree in IA and IO from the start, so they differ at most in D and I. -/
theorem decimalAndInterruptFlagsAreStorage : Obligations.DecimalAndInterruptFlagsAreStorage := by
  intro i s t d n he
  have h : Agree ⟨true, true, false⟩ s { s with flagD := d, flagI := n } :=
    ⟨s.ia, s.io, d, n, rfl, fun _ => rfl, fun _ => rfl, nofun⟩
  obtain ⟨t', he', ia, io, d', n', rfl, hia, hio, -⟩ := agree_exec h he
  obtain rfl := hia rfl
  obtain rfl := hio rfl
  exact ⟨_, he', rfl⟩

/-! ## The step -/

theorem State.idle.not_stopped {s : State} (h : s.idle) : s.stopped = false := by
  obtain ⟨-, hh, hf⟩ := h
  simp [State.stopped, hh, hf]

/-- Between instructions a tick fetches an opcode (40_sequencer R141). -/
theorem tick_of_idle {s : State} (h : s.idle) : tick s = fetchOpcode (s.dequeue []) := by
  simp only [tick, h.not_stopped, h.1]
  rfl

/-- Between instructions bytes that decode run their instruction. -/
theorem step_of_decode {s : State} (h : s.idle) {i : Instr} {rest : List Byte}
    (hd : decodeIn s.opcodeSet s.streamBytes = .ok (i, rest)) : step s = exec i (s.afterFetch i.length) := by
  simp [step, h.not_stopped, h.1, hd]

/-- Between instructions bytes that do not decode are left to the tick. -/
theorem step_of_decode_error {s : State} (h : s.idle) {e : DecodeFailure}
    (hd : decodeIn s.opcodeSet s.streamBytes = .error e) : step s = fetchOpcode (s.dequeue []) := by
  simp [step, h.not_stopped, h.1, hd, tick_of_idle h]

theorem fetchOpcode_of_none {s : State} (h : tableEntry s.opcodeSet s.fetchByte.1 = none) :
    fetchOpcode s = s.fetchByte.2.raise (.decodeError s.fetchByte.1 s.pc) := by
  simp only [fetchOpcode, h]

theorem fetchOpcode_of_some {s : State} {e : Entry} (h : tableEntry s.opcodeSet s.fetchByte.1 = some e) :
    fetchOpcode s = .next { s.fetchByte.2 with queue := s.queue ++ e.expansion } := by
  simp only [fetchOpcode, h]

/-- What O59 says of two outcomes: they answer alike, next or DecodeError, with states that differ only in IA and IO. -/
def SameButStaging (o o' : Host.Outcome State Fault Refusal) : Prop :=
  (∀ t, o = .next t → ∃ t', o' = .next t' ∧ { t' with ia := t.ia, io := t.io } = t) ∧
  ∀ op addr after, o = .fault (.decodeError op addr after) →
    ∃ after', o' = .fault (.decodeError op addr after') ∧ { after' with ia := after.ia, io := after.io } = after

/-- An instruction overwrites IA and IO before it reads them. -/
theorem exec_sameButStaging (i : Instr) (s : State) (ia : Addr) (io : Byte) :
    SameButStaging (exec i s) (exec i { s with ia := ia, io := io }) := by
  have h : Agree ⟨false, false, true⟩ s { s with ia := ia, io := io } :=
    ⟨ia, io, s.flagD, s.flagI, rfl, nofun, nofun, fun _ => ⟨rfl, rfl⟩⟩
  refine ⟨fun t he => ?_, fun op addr after he => ?_⟩
  · obtain ⟨t', he', ia', io', d, n, rfl, -, -, hdi⟩ := agree_exec h he
    obtain ⟨rfl, rfl⟩ := hdi rfl
    exact ⟨_, he', rfl⟩
  · rw [exec_eq_runOps] at he
    cases he

/-- An opcode fetch reads neither IA nor IO. -/
theorem fetchOpcode_sameButStaging (s : State) (ia : Addr) (io : Byte) :
    SameButStaging (fetchOpcode s) (fetchOpcode { s with ia := ia, io := io }) := by
  cases hte : tableEntry s.opcodeSet s.fetchByte.1 with
  | none =>
    rw [fetchOpcode_of_none hte, fetchOpcode_of_none (s := { s with ia := ia, io := io }) hte]
    refine ⟨fun t he => ?_, fun op addr after he => ?_⟩ <;> cases he
    exact ⟨_, rfl, rfl⟩
  | some e =>
    rw [fetchOpcode_of_some hte, fetchOpcode_of_some (s := { s with ia := ia, io := io }) hte]
    refine ⟨fun t he => ?_, fun op addr after he => ?_⟩ <;> cases he
    exact ⟨_, rfl, rfl⟩

/-- Settles O59: a step between instructions is a whole instruction or an opcode fetch. -/
theorem stagingRegistersNeverReachResults : Obligations.StagingRegistersNeverReachResults := by
  intro s ia io hs
  have hs' : State.idle { s with ia := ia, io := io } := hs
  cases hd : decodeIn s.opcodeSet s.streamBytes with
  | ok decoded =>
    obtain ⟨i, rest⟩ := decoded
    rw [step_of_decode hs hd, step_of_decode hs' hd]
    exact exec_sameButStaging i (s.afterFetch i.length) ia io
  | error failure =>
    rw [step_of_decode_error hs hd, step_of_decode_error hs' hd]
    exact fetchOpcode_sameButStaging (s.dequeue []) ia io

end Sys2Proof.Machine
end

section
/-! SUPPORT. The bus and Memory (spec 20_memory R63–R74, R81): what a scan of the device list reads, what a write leaves
readable at other addresses, and what a bulk load stores. -/

namespace Sys2Proof.Machine

/-! ## The bus -/

/-- A read passes over devices that are not readable there, and leaves them as they are (R63). -/
theorem busRead_append {before : List Device} {addr : Addr} (h : ∀ e ∈ before, e.isReadableFor addr = false)
    (rest : List Device) :
    busRead (before ++ rest) addr = ((busRead rest addr).1, before ++ (busRead rest addr).2) := by
  induction before with
  | nil => rfl
  | cons e before ih =>
    obtain ⟨he, hbefore⟩ := List.forall_mem_cons.mp h
    simp [busRead, he, ih hbefore]

theorem busRead_cons_of_readable {d : Device} {addr : Addr} (h : d.isReadableFor addr = true) (rest : List Device) :
    busRead (d :: rest) addr = ((d.doRead addr).1, (d.doRead addr).2 :: rest) := by
  simp [busRead, h]

/-- Settles O30: the scan passes over the devices before the first readable one, and ends at it. -/
theorem busReadTakesFirstReadable : Obligations.BusReadTakesFirstReadable := by
  refine ⟨fun before after d addr hbefore hd => ?_, fun devices addr h => ?_⟩
  · rw [busRead_append hbefore, busRead_cons_of_readable hd]
  · simpa [busRead] using busRead_append h []

/-- The device after a bus write: a writable one stores the byte, any other is as before (R66). -/
theorem busWrite_eq_map (devices : List Device) (addr : Addr) (v : Byte) :
    busWrite devices addr v = devices.map fun d => if d.isWritableFor addr then d.doWrite addr v else d := by
  induction devices with
  | nil => rfl
  | cons d rest ih => rw [busWrite, ih, List.map_cons]

/-- Settles O31: a write acts on each device by itself, and on one that is not writable not at all. -/
theorem busWriteReachesEveryWritable : Obligations.BusWriteReachesEveryWritable := by
  refine ⟨busWrite_eq_map, fun devices addr v h => ?_⟩
  rw [busWrite_eq_map, List.map_congr_left (g := id) fun d hd => by simp [h d hd], List.map_id]

/-! ## Memory -/

theorem State.peek_memWrite (s : State) (addr other : Addr) (v : Byte) :
    (s.memWrite addr v).peek other = (busRead (busWrite s.devices addr v) other).1 := rfl

/-- Settles O32: the Memory stores the byte, and is still the first readable device there. -/
theorem memoryRoundTrip : Obligations.MemoryRoundTrip := by
  refine ⟨fun m addr v hwf _ => Memory.read_write_same hwf addr v, fun s before after m addr v hd hwf hc hbefore => ?_⟩
  have hwritten : busWrite s.devices addr v =
      before.map (fun e => if e.isWritableFor addr then e.doWrite addr v else e) ++
        .memory (m.write addr v) :: busWrite after addr v := by
    have hm : (Device.memory m).isWritableFor addr = true := hc
    simp [hd, busWrite_eq_map, hm, Device.doWrite]
  have hreadable : (Device.memory (m.write addr v)).isReadableFor addr = true := hc
  rw [State.peek_memWrite, hwritten, busRead_append (List.forall_mem_map.mpr hbefore),
    busRead_cons_of_readable hreadable]
  exact Memory.read_write_same hwf addr v

theorem busRead_memory_cons (m : Memory) (rest : List Device) (addr : Addr) :
    (busRead (.memory m :: rest) addr).1 = if m.covers addr then m.read addr else (busRead rest addr).1 :=
  apply_ite Prod.fst _ _ _

/-- On a bus of Memories a write changes what is read at its own address only (R81). -/
theorem busRead_busWrite_other {addr other : Addr} (hne : other ≠ addr) (v : Byte) : ∀ {devices : List Device},
    (∀ d ∈ devices, ∃ m, d = .memory m) →
    (busRead (busWrite devices addr v) other).1 = (busRead devices other).1 := by
  intro devices
  induction devices with
  | nil => intro _; rfl
  | cons d rest ih =>
    intro h
    obtain ⟨⟨m, rfl⟩, hrest⟩ := List.forall_mem_cons.mp h
    rw [busRead_memory_cons, busWrite]
    split
    · rw [Device.doWrite, busRead_memory_cons, Memory.write_covers, Memory.read_write_other m hne, ih hrest]
    · rw [busRead_memory_cons, ih hrest]

theorem State.peek_memWrite_other {s : State} (h : s.memoryOnly) {addr other : Addr} (hne : other ≠ addr) (v : Byte) :
    (s.memWrite addr v).peek other = s.peek other :=
  busRead_busWrite_other hne v h

/-- Settles O33: each Memory keeps its range and what its other cells hold. -/
theorem memoryWriteLeavesOtherAddresses : Obligations.MemoryWriteLeavesOtherAddresses :=
  fun _ addr _ v h => ⟨State.memRead_memoryOnly h addr, fun hne => State.peek_memWrite_other h hne v⟩

/-! ## Bulk load -/

/-- What a load inside the range stores: its bytes at consecutive addresses, and nothing elsewhere (R72). -/
theorem Memory.read_load : ∀ (bytes : List Byte) {m : Memory} {start : Addr} (addr : Addr), m.wf = true →
    (bytes ≠ [] → m.lower.toNat ≤ start.toNat ∧ start.toNat + bytes.length - 1 ≤ m.upper.toNat) →
    (m.load start bytes).read addr =
      if start.toNat ≤ addr.toNat ∧ addr.toNat < start.toNat + bytes.length
      then bytes.getD (addr.toNat - start.toNat) 0 else m.read addr := by
  intro bytes
  induction bytes with
  | nil => intro m start addr _ _; rw [if_neg (by simp)]; rfl
  | cons v rest ih =>
    intro m start addr hwf hr
    obtain ⟨hl, hu⟩ := hr (by simp)
    rw [List.length_cons] at hu
    have hc : m.covers start = true := (m.covers_iff start).mpr ⟨hl, by omega⟩
    have hnext : rest.length = 0 ∨ (start + 1#16).toNat = start.toNat + 1 := by
      have := m.upper.isLt
      rw [BitVec.toNat_add]
      simp only [BitVec.toNat_ofNat]
      omega
    rw [Memory.load, ih addr (Memory.write_wf hwf hc v) (fun hne => by
      have := List.length_pos_iff.mpr hne
      simp only [Memory.write_lower, Memory.write_upper]
      omega), List.length_cons]
    by_cases ha : addr = start
    · subst ha
      rw [if_neg (by omega), if_pos (by omega), Memory.read_write_same hwf, Nat.sub_self, List.getD_cons_zero]
    · have hne : addr.toNat ≠ start.toNat := fun e => ha (BitVec.eq_of_toNat_eq e)
      rw [Memory.read_write_other m ha]
      by_cases hin : start.toNat ≤ addr.toNat ∧ addr.toNat < start.toNat + (rest.length + 1)
      · have hsub : addr.toNat - start.toNat = addr.toNat - (start + 1#16).toNat + 1 := by omega
        rw [if_pos hin, if_pos (by omega), hsub, List.getD_cons_succ]
      · rw [if_neg hin, if_neg (by omega)]

theorem Memory.bulkLoad_eq_none_iff (m : Memory) (start : Addr) (bytes : List Byte) :
    m.bulkLoad start bytes = none ↔
      bytes ≠ [] ∧ (start.toNat < m.lower.toNat ∨ m.upper.toNat < start.toNat + bytes.length - 1) := by
  unfold Memory.bulkLoad
  split
  · next hb => simp [hb]
  · next hb =>
    split
    · next hr => exact iff_of_false nofun fun ⟨_, hout⟩ => by omega
    · next hr => exact iff_of_true rfl ⟨hb, by omega⟩

/-- An accepted bulk load is the load of its bytes, which stay in the range. -/
theorem Memory.bulkLoad_eq_some {m m' : Memory} {start : Addr} {bytes : List Byte}
    (h : m.bulkLoad start bytes = some m') :
    m' = m.load start bytes ∧
      (bytes ≠ [] → m.lower.toNat ≤ start.toNat ∧ start.toNat + bytes.length - 1 ≤ m.upper.toNat) := by
  unfold Memory.bulkLoad at h
  split at h
  · next hb => subst hb; cases h; exact ⟨rfl, absurd rfl⟩
  · split at h
    · next hr => cases h; exact ⟨rfl, fun _ => hr⟩
    · cases h

/-- Settles O34: an accepted load stays in the range, and there `Memory.read_load` says what it stores. -/
theorem bulkLoadStoresOrRefuses : Obligations.BulkLoadStoresOrRefuses := by
  refine fun m start bytes hwf => ⟨m.bulkLoad_eq_none_iff start bytes, fun m' h addr => ?_⟩
  obtain ⟨rfl, hr⟩ := Memory.bulkLoad_eq_some h
  exact Memory.read_load bytes addr hwf hr

end Sys2Proof.Machine
end

section
/-! SUPPORT. What instructions and ticks leave of the platform and of memory (spec 20_memory R60, R81): the device list,
contents apart, is fixed; and on a platform of Memories a semantic micro-op stores at the staged address or nowhere. -/

namespace Sys2Proof.Machine

open Sys2Proof.Claims

/-! ## The platform -/

theorem exec_keeps {i : Instr} {s t : State} (h : exec i s = .next t) :
    Keeps (s.advance i.length (Machine.Instr.ticks i)) t := by
  obtain rfl := eq_runOps_of_exec h
  exact (Mode.stage_keeps _ _ _ _).trans (runOps_keeps _ (fetchOpcode_not_mem_suffix i))

/-- The same devices, contents apart, and the same construction parameters. -/
def SamePlatform (s t : State) : Prop :=
  t.platform = s.platform ∧ t.opcodeSet = s.opcodeSet ∧ t.resetRegs = s.resetRegs

theorem Keeps.samePlatform {s t : State} (k : Keeps s t) : SamePlatform s t := ⟨k.platform, k.opcodeSet, k.resetRegs⟩

theorem SamePlatform.trans {s t u : State} (h : SamePlatform s t) (k : SamePlatform t u) : SamePlatform s u := by
  obtain ⟨hp, ho, hr⟩ := h
  obtain ⟨kp, ko, kr⟩ := k
  exact ⟨kp.trans hp, ko.trans ho, kr.trans hr⟩

theorem executeMicroOp_samePlatform {u : MicroOp} {s t : State} (h : executeMicroOp u s = .next t) :
    SamePlatform s t := by
  obtain ⟨-, e, -, hx⟩ | ⟨-, -, hx⟩ | ⟨-, -, v, hx, -, k⟩ | ⟨-, hx⟩ := executeMicroOp_cases u s <;> rw [hx] at h
  · obtain rfl := Host.Outcome.next.inj h
    exact s.fetchByte_keeps.samePlatform
  · cases h
  · obtain rfl := Host.Outcome.next.inj h
    exact k.samePlatform
  · cases h

theorem not_stopped_of_tick {s t : State} (h : tick s = .next t) : s.stopped = false := by
  by_contra hstop
  rw [tick, if_pos (by simpa using hstop)] at h
  cases h

theorem tick_samePlatform {s t : State} (h : tick s = .next t) : SamePlatform s t := by
  obtain ⟨u, rest, -, hx⟩ := tick_executes (not_stopped_of_tick h)
  exact executeMicroOp_samePlatform (s := s.dequeue rest) (hx ▸ h)

theorem exec_samePlatform {i : Instr} {s t : State} (h : exec i s = .next t) : SamePlatform s t :=
  (exec_keeps h).samePlatform

/-- Settles O29: a tick executes one micro-op, and a step is a tick or a whole instruction. -/
theorem platformIsFixed : Obligations.PlatformIsFixed := by
  rintro s t (h | h)
  · exact tick_samePlatform h
  · obtain h | ⟨i, -, -, -, h⟩ := step_cases h
    · exact tick_samePlatform h
    · exact (s.afterFetch_keeps i.length).samePlatform.trans (exec_samePlatform h)

/-! ## The staged address and the devices -/

/-- Whether the micro-op leaves IA as the mode staged it and, if it stores, stores there. -/
def MicroOp.keepsStagedAddress : MicroOp → Bool
  | .fetchZeroPageAddr | .fetchAddrLo | .fetchAddrHi | .incrementAddressByReg _ _ | .readAddressHi => false
  | .writeToAddress _ .pc => false
  | _ => true

/-- Whether the micro-op writes the bus (41_microops_alu R183). -/
def MicroOp.stores : MicroOp → Bool
  | .writeToAddress _ _ => true
  | _ => false

theorem computeAndStore_ia_devices (left dst : Reg8) (func : AluFunc) (s : State) :
    (computeAndStore left dst func s).ia = s.ia ∧ (computeAndStore left dst func s).devices = s.devices := by
  simp only [computeAndStore]
  split <;> simp

/-- What writes registers or flags writes neither IA nor the devices. -/
theorem apply_ia_devices_of_computes {u : MicroOp} (h : u.computes = true) (s : State) :
    (u.apply s).ia = s.ia ∧ (u.apply s).devices = s.devices := by
  cases u with
  | storeToRegister src dst => cases dst <;> exact ⟨rfl, rfl⟩
  | computeAndStore left dst func => exact computeAndStore_ia_devices left dst func s
  | compareToRegister => exact ⟨rfl, rfl⟩
  | bitTest => exact ⟨rfl, rfl⟩
  | modifyRegister reg func => cases reg <;> exact ⟨rfl, rfl⟩
  | setFlag flag value => exact ⟨s.putFlag_ia flag value, s.putFlag_devices flag value⟩
  | _ => cases h

theorem incrementPCBySignedOperand_ia_devices (cond : Cond) (s : State) :
    (incrementPCBySignedOperand cond s).ia = s.ia ∧ (incrementPCBySignedOperand cond s).devices = s.devices := by
  simp only [incrementPCBySignedOperand]
  split <;> exact ⟨rfl, rfl⟩

theorem ia_apply {u : MicroOp} (h : u.keepsStagedAddress = true) (s : State) : (u.apply s).ia = s.ia := by
  cases u with
  | storeToRegister | computeAndStore | compareToRegister | bitTest | modifyRegister | setFlag =>
    exact (apply_ia_devices_of_computes rfl s).1
  | fetchOpcode => obtain h | ⟨q, h⟩ := apply_fetchOpcode s <;> rw [h]; rfl
  | incrementPCBySignedOperand cond => exact (incrementPCBySignedOperand_ia_devices cond s).1
  | fetchZeroPageAddr | fetchAddrLo | fetchAddrHi | incrementAddressByReg | readAddressHi => cases h
  | _ => rfl

/-- On a platform of Memories a micro-op that does not store leaves every device as it is: reads change nothing
(R69). -/
theorem devices_apply {u : MicroOp} (h : u.stores = false) {s : State} (hm : s.memoryOnly) :
    (u.apply s).devices = s.devices := by
  cases u with
  | storeToRegister | computeAndStore | compareToRegister | bitTest | modifyRegister | setFlag =>
    exact (apply_ia_devices_of_computes rfl s).2
  | fetchOpcode =>
    obtain h | ⟨q, h⟩ := apply_fetchOpcode s <;> rw [h]
    exact busRead_memories s.pc hm
  | fetchImmediateOperand | fetchOperand | fetchZeroPageAddr | fetchAddrLo | fetchAddrHi =>
    exact busRead_memories s.pc hm
  | incrementAddressByReg reg wrap => cases wrap <;> rfl
  | readAddressLo | readAddressHi | readOperand => exact busRead_memories _ hm
  | incrementPCBySignedOperand cond => exact (incrementPCBySignedOperand_ia_devices cond s).2
  | writeToAddress => cases h
  | jumpToAddress | nop | brk => rfl

theorem dereference_devices {s : State} (hm : s.memoryOnly) : (dereference s).devices = s.devices :=
  have hlo : (readAddressLo s).devices = s.devices := busRead_memories s.ia hm
  (busRead_memories _ (hlo ▸ hm)).trans hlo

theorem Mode.stage_devices (m : Mode) (imm8 : Byte) (addr : Addr) {s : State} (hm : s.memoryOnly) :
    (m.stage imm8 addr s).devices = s.devices := by
  cases m with
  | indirect => exact dereference_devices (s := eaAbsolute addr s) hm
  | indexedIndirect => exact dereference_devices (s := eaZeroPageX imm8 s) hm
  | indirectIndexed => exact dereference_devices (s := eaZeroPage imm8 s) hm
  | relative cond => exact (incrementPCBySignedOperand_ia_devices cond (Machine.immediate imm8 s)).2
  | _ => rfl

/-- On a platform of Memories reading the operand changes no device. -/
theorem Instr.stage_devices (i : Instr) {s : State} (hm : s.memoryOnly) : (i.stage s).devices = s.devices :=
  Mode.stage_devices _ _ _ (s := s.advance i.length (Machine.Instr.ticks i)) hm

/-! ## The memory frame -/

theorem State.memWrite_memoryOnly {s : State} (h : s.memoryOnly) (addr : Addr) (v : Byte) :
    (s.memWrite addr v).memoryOnly := by
  intro e he
  rw [State.memWrite_devices, busWrite_eq_map] at he
  obtain ⟨d, hd, rfl⟩ := List.mem_map.mp he
  obtain ⟨m, rfl⟩ := h d hd
  split <;> exact ⟨_, rfl⟩

theorem State.peek_of_devices {s t : State} (h : t.devices = s.devices) (addr : Addr) : t.peek addr = s.peek addr := by
  rw [State.peek, h, State.peek]

/-- One such micro-op leaves a platform of Memories, and what every address but the staged one reads as. -/
theorem peek_apply {u : MicroOp} (hu : u.keepsStagedAddress = true) {s : State} (hm : s.memoryOnly) {addr : Addr}
    (h : u.stores = true → addr ≠ s.ia) : (u.apply s).memoryOnly ∧ (u.apply s).peek addr = s.peek addr := by
  by_cases hs : u.stores = true
  · cases u with
    | writeToAddress src reg =>
      cases reg with
      | pc => cases hu
      | internalAddress => exact ⟨s.memWrite_memoryOnly hm _ _, State.peek_memWrite_other hm (h hs) _⟩
    | _ => cases hs
  · have hd : (u.apply s).devices = s.devices := devices_apply (by simpa using hs) hm
    exact ⟨by rw [State.memoryOnly, hd]; exact hm, State.peek_of_devices hd addr⟩

/-- Micro-ops that keep the staged address change what is read there at most, and only if one of them stores. -/
theorem runOps_peek {addr : Addr} : ∀ {ops : List MicroOp} {s : State}, s.memoryOnly →
    (∀ u ∈ ops, u.keepsStagedAddress = true) → (ops.any MicroOp.stores = true → addr ≠ s.ia) →
    (runOps ops s).peek addr = s.peek addr := by
  intro ops
  induction ops with
  | nil => intro s _ _ _; rfl
  | cons u ops ih =>
    intro s hm hkeep hne
    obtain ⟨hu, hops⟩ := List.forall_mem_cons.mp hkeep
    obtain ⟨hm', hpeek⟩ := peek_apply hu hm fun hs => hne (by simp [hs])
    rw [runOps_cons, ih hm' hops fun hs => ?_, hpeek]
    rw [ia_apply hu]
    exact hne (by simp [hs])

theorem suffix_keepsStagedAddress (i : Instr) : ∀ u ∈ i.suffix, u.keepsStagedAddress = true := by
  rw [← List.all_eq_true]
  cases i <;> simp only [Instr.suffix, Instr.entry, Instr.opcode, encode, List.headD_cons] <;> rfl

/-- The instructions whose table entry stores are those with a store target, and it is the address staged in IA. -/
theorem storeTarget_eq (i : Instr) (s : State) :
    storeTarget i s = bif i.suffix.any MicroOp.stores then some (i.stage s).ia else none := by
  cases i <;>
    simp only [Instr.stage, Instr.suffix, Instr.entry, Instr.opcode, Instr.address, Machine.Instr.ticks,
      Instr.length, encode, List.headD_cons, List.head?_cons, List.tail_cons, addrOf_hiByte_loByte] <;>
    rfl

/-- Settles O55: reading the operand changes nothing, and the micro-ops that follow store at the staged address or
nowhere. -/
theorem memoryFrameOfEveryInstruction : Obligations.MemoryFrameOfEveryInstruction := by
  intro i s t addr hm he htarget
  obtain rfl := eq_runOps_of_exec he
  have hd : (i.stage s).devices = s.devices := Instr.stage_devices i hm
  have hm' : (i.stage s).memoryOnly := by rw [State.memoryOnly, hd]; exact hm
  rw [runOps_peek hm' (suffix_keepsStagedAddress i) fun hs => htarget _ (by rw [storeTarget_eq, hs, cond_true])]
  exact State.peek_of_devices hd addr

end Sys2Proof.Machine
end

section
/-! SUPPORT. The encoding (spec 30_encoding): what the checks of a table decide (R106), that the decoder and the table
populate the same bytes with the same lengths (R101, R107, R109), and the operand forms in numbers (R110–R119). -/

namespace Sys2Proof.Machine

/-! ## The table's checks -/

theorem Entry.failedCheck_eq_none_iff (e : Entry) :
    e.failedCheck = none ↔ ∀ u ∈ e.expansion, u.wf = true := by
  have hsplit : (∀ u ∈ e.expansion, u.wf = true) ↔
      e.expansion.all MicroOp.noSelfStore = true ∧ e.expansion.all MicroOp.noCompareStore = true ∧
        e.expansion.all MicroOp.payloadInDomain = true := by
    simp only [MicroOp.wf, Bool.and_eq_true, List.all_eq_true, and_assoc, forall_and]
  rw [hsplit, Entry.failedCheck]
  split_ifs <;> simp_all

/-- The scan finds no failing row exactly when no opcode comes twice and every micro-op passes (b), (c) and (d). -/
theorem failedTableCheck_eq_none_iff (table : List TableRow) :
    failedTableCheck table = none ↔
      (table.map TableRow.opcode).Nodup ∧ ∀ r ∈ table, ∀ u ∈ r.entry.expansion, u.wf = true := by
  induction table with
  | nil => simp [failedTableCheck]
  | cons r rest ih =>
    have hdup : rest.any (fun q => q.opcode == r.opcode) = true ↔ r.opcode ∈ rest.map TableRow.opcode := by
      simp
    rw [failedTableCheck, List.map_cons, List.nodup_cons, List.forall_mem_cons, ← r.entry.failedCheck_eq_none_iff]
    by_cases h : r.opcode ∈ rest.map TableRow.opcode
    · simp [hdup.mpr h, h]
    · rw [if_neg (mt hdup.mp h)]
      cases r.entry.failedCheck with
      | some check => simp
      | none => simp [h, ih]

set_option maxRecDepth 20000 in
theorem failedTableCheck_instructionTable (set : OpcodeSet) : failedTableCheck (instructionTable set) = none := by
  cases set <;> decide

/-- Settles O18: construction succeeds where the scan finds no failing row, and is refused with the one it finds. -/
theorem tableChecksDecideConstruction : Obligations.TableChecksDecideConstruction := by
  refine ⟨failedTableCheck_instructionTable, fun table s => ⟨fun good => ?_, fun bad => ?_⟩⟩
  · rw [constructFrom, (failedTableCheck_eq_none_iff table).mpr good]
  · obtain ⟨⟨op, check⟩, h⟩ := Option.ne_none_iff_exists'.mp (mt (failedTableCheck_eq_none_iff table).mp bad)
    exact ⟨op, check, by rw [constructFrom, h]⟩

/-! ## The decoder and the table -/

/-- The lookup answers with the first row of the opcode (R109). -/
theorem lookupEntry_eq_find? (rows : List TableRow) (op : Byte) :
    lookupEntry rows op = (rows.find? fun r => r.opcode == op).map TableRow.entry := by
  induction rows with
  | nil => rfl
  | cons r rows ih => by_cases h : r.opcode = op <;> simp [lookupEntry, h, ih]

theorem tableEntry_completed_of_mem_shownTable :
    ∀ r ∈ shownTable, tableEntry .completed r.opcode = some r.entry := by decide

/-- Settles O19: the SHOWN table is the source's five rows, and each is COMPLETED's row of its opcode. -/
theorem shownTableHasSourceEntries : Obligations.ShownTableHasSourceEntries := by
  refine ⟨fun op => ?_, fun op e h => ?_⟩
  · simp only [tableEntry, shownTable, lookupEntry, row, eq_comm (b := op)]
    rfl
  · rw [tableEntry, lookupEntry_eq_find?] at h
    obtain ⟨r, hr, rfl⟩ := Option.map_eq_some_iff.mp h
    obtain rfl : r.opcode = op := by simpa using List.find?_some hr
    exact tableEntry_completed_of_mem_shownTable r (List.mem_of_find?_eq_some hr)

/-- R101's length of an entry: the opcode, and a byte for each micro-op that consumes one. -/
def Entry.streamLength (e : Entry) : Nat := 1 + (e.expansion.filter MicroOp.consumesStreamByte).length

set_option maxRecDepth 20000 in
theorem opcodeLookup_length_below_256 (set : OpcodeSet) :
    ∀ n < 256, (opcodeLookup set (BitVec.ofNat 8 n)).map Build.length
      = (tableEntry set (BitVec.ofNat 8 n)).map Entry.streamLength := by
  cases set <;> decide

/-- The decoder populates the table's opcodes, each with its entry's length. -/
theorem opcodeLookup_length (set : OpcodeSet) (op : Byte) :
    (opcodeLookup set op).map Build.length = (tableEntry set op).map Entry.streamLength := by
  simpa using opcodeLookup_length_below_256 set op.toNat op.isLt

set_option maxRecDepth 20000 in
/-- Settles O16: the decoder and the table are compared byte by byte, and the unpopulated bytes counted. -/
theorem decoderAgreesWithInstructionTable : Obligations.DecoderAgreesWithInstructionTable :=
  ⟨opcodeLookup_length, by decide, by decide⟩

/-- Settles O17: each word's opcode byte is a populated entry of the opcode map, but 0x48. -/
theorem sampleWordsDecode : Obligations.SampleWordsDecode :=
  ⟨rfl, rfl, rfl, rfl, rfl, rfl, rfl, rfl, rfl, rfl, rfl⟩

open Sys2Proof.Laws.StreamLength in
/-- Settles O60: one lemma of the family StreamLength for each constructor, in the table's order. -/
theorem encodingLengthFollowsExpansion : Obligations.EncodingLengthFollowsExpansion :=
  Instr.rec (motive := Statement)
    brk oraIndX oraZp aslZp oraImm aslAcc oraAbs aslAbs bpl oraIndY oraZpX aslZpX clc oraAbsY oraAbsX aslAbsX
    andIndX bitZp andZp rolZp andImm rolAcc bitAbs andAbs rolAbs bmi andIndY andZpX rolZpX sec andAbsY andAbsX
    rolAbsX eorIndX eorZp lsrZp eorImm lsrAcc jmpAbs eorAbs lsrAbs bvc eorIndY eorZpX lsrZpX cli eorAbsY eorAbsX
    lsrAbsX adcIndX adcZp rorZp adcImm rorAcc jmpInd adcAbs rorAbs bvs adcIndY adcZpX rorZpX sei adcAbsY adcAbsX
    rorAbsX staIndX styZp staZp stxZp dey txa styAbs staAbs stxAbs bcc staIndY styZpX staZpX stxZpY tya staAbsY
    staAbsX ldyImm ldaIndX ldxImm ldyZp ldaZp ldxZp tay ldaImm tax ldyAbs ldaAbs ldxAbs bcs ldaIndY ldyZpX
    ldaZpX ldxZpY clv ldaAbsY ldyAbsX ldaAbsX ldxAbsY cpyImm cmpIndX cpyZp cmpZp decZp iny cmpImm dex cpyAbs
    cmpAbs decAbs bne cmpIndY cmpZpX decZpX cld cmpAbsY cmpAbsX decAbsX cpxImm sbcIndX cpxZp sbcZp incZp inx
    sbcImm nop cpxAbs sbcAbs incAbs beq sbcIndY sbcZpX incZpX sed sbcAbsY sbcAbsX incAbsX

/-! ## The operand forms -/

/-- An index added to an address across 16 bits (R115, R116, R119). -/
theorem add_zeroExtend_eq_ofNat (addr : Addr) (index : Byte) :
    addr + index.zeroExtend 16 = BitVec.ofNat 16 ((addr.toNat + index.toNat) % 65536) := by
  apply BitVec.eq_of_toNat_eq
  simp [Nat.mod_eq_of_lt (index.isLt.trans (by decide : 256 < 65536))]

/-- An index added in page zero (R112, R113, R118). -/
theorem addrOf_zero_add (imm8 index : Byte) :
    addrOf 0x00#8 (imm8 + index) = BitVec.ofNat 16 ((imm8.toNat + index.toNat) % 256) := by
  rw [addrOf_zero, BitVec.toNat_add]

/-- Settles O35: an address of page zero is its low byte, and the index is added to that byte alone. -/
theorem zeroPageFormsStayInPageZero : Obligations.ZeroPageFormsStayInPageZero := by
  refine ⟨rfl, rfl, rfl, fun imm8 s => ⟨?_, ?_, ?_⟩⟩
  · rw [eaZeroPage, addrOf_zero]
  · rw [eaZeroPageX, addrOf_zero_add]
  · rw [eaZeroPageY, addrOf_zero_add]

/-- Settles O36: the index is added to the whole address. -/
theorem absoluteFormsIndexAcrossPages : Obligations.AbsoluteFormsIndexAcrossPages := by
  refine ⟨rfl, rfl, rfl, fun addr s => ⟨rfl, ?_, ?_⟩⟩
  · rw [eaAbsoluteX, add_zeroExtend_eq_ofNat]
  · rw [eaAbsoluteY, add_zeroExtend_eq_ofNat]

/-- A pointer's high byte is at the next address of its page (40_sequencer R156). -/
theorem pointerHighAddr_ofNat {p : Nat} (h : p < 65536) :
    pointerHighAddr (BitVec.ofNat 16 p) = BitVec.ofNat 16 (p / 256 * 256 + (p + 1) % 256) := by
  apply BitVec.eq_of_toNat_eq
  rw [pointerHighAddr, addrOf_toNat, hiByte_toNat, BitVec.toNat_add, loByte_toNat]
  simp only [BitVec.toNat_ofNat]
  omega

/-- Dereferencing the pointer `p`: two reads, the low byte's first; IO keeps the low byte. -/
theorem dereference_eq {s : State} {p : Nat} (h : p < 65536) (hia : s.ia = BitVec.ofNat 16 p) :
    let low := busRead s.devices (BitVec.ofNat 16 p)
    let high := busRead low.2 (BitVec.ofNat 16 (p / 256 * 256 + (p + 1) % 256))
    dereference s = { s with ia := addrOf high.1 low.1, io := low.1, devices := high.2 } := by
  rw [← pointerHighAddr_ofNat h, ← hia]
  rfl

/-- Settles O37: each form dereferences the pointer its operand gives; (zp),Y then adds Y. -/
theorem pointerFormsReadSamePage : Obligations.PointerFormsReadSamePage := by
  refine ⟨rfl, rfl, rfl, fun imm8 addr s => ⟨?_, ?_, ?_⟩⟩
  · exact dereference_eq (s := eaAbsolute addr s) addr.isLt (by simp [eaAbsolute])
  · exact dereference_eq (s := eaZeroPageX imm8 s) (by omega) (addrOf_zero_add imm8 s.x)
  · have hfound := dereference_eq (s := eaZeroPage imm8 s) (imm8.isLt.trans (by decide)) (addrOf_zero imm8)
    rw [eaIndirectIndexed, hfound, addYToAddress, add_zeroExtend_eq_ofNat]
    rfl

/-- Settles O38: both are single updates of IO; the bus read may change the devices. -/
theorem operandReadsGoToInternalOperand : Obligations.OperandReadsGoToInternalOperand :=
  ⟨rfl, fun _ _ => ⟨rfl, rfl⟩⟩

end Sys2Proof.Machine
end

section
/-! SUPPORT. The sequencer (spec 40_sequencer): what a tick executes (R140–R142), that a micro-op neither reads nor
writes Q and the cycle count, the opcode fetch and its DecodeError (R144, R145), and the address micro-ops (R150–R154). -/

namespace Sys2Proof.Machine

/-! ## Q and the cycle count -/

/-- The same state but for Q and the cycle count. -/
def State.withSequencer (s : State) (q : List MicroOp) (c : Nat) : State := { s with queue := q, cycles := c }

theorem State.withSequencer_self {s : State} {q : List MicroOp} {c : Nat} (hq : s.queue = q) (hc : s.cycles = c) :
    s.withSequencer q c = s := by
  subst hq hc
  rfl

@[simp] theorem State.getReg_withSequencer (s : State) (q : List MicroOp) (c : Nat) (r : Reg8) :
    (s.withSequencer q c).getReg r = s.getReg r := by
  cases r <;> rfl

@[simp] theorem State.getFlag_withSequencer (s : State) (q : List MicroOp) (c : Nat) (f : Flag) :
    (s.withSequencer q c).getFlag f = s.getFlag f := by
  cases f <;> rfl

@[simp] theorem State.getAddrReg_withSequencer (s : State) (q : List MicroOp) (c : Nat) (r : AddrReg) :
    (s.withSequencer q c).getAddrReg r = s.getAddrReg r := by
  cases r <;> rfl

@[simp] theorem State.setReg_withSequencer (s : State) (q : List MicroOp) (c : Nat) (r : Reg8) (v : Byte) :
    (s.withSequencer q c).setReg r v = (s.setReg r v).withSequencer q c := by
  cases r <;> rfl

@[simp] theorem State.putFlag_withSequencer (s : State) (q : List MicroOp) (c : Nat) (f : Flag) (b : Bool) :
    (s.withSequencer q c).putFlag f b = (s.putFlag f b).withSequencer q c := by
  cases f <;> rfl

theorem storeToRegister_withSequencer (src dst : Reg8) (s : State) (q : List MicroOp) (c : Nat) :
    storeToRegister src dst (s.withSequencer q c) = (storeToRegister src dst s).withSequencer q c := by
  cases dst <;> simp only [storeToRegister, State.getReg_withSequencer, State.setReg_withSequencer] <;> rfl

theorem computeAndStore_withSequencer (left dst : Reg8) (func : AluFunc) (s : State) (q : List MicroOp) (c : Nat) :
    computeAndStore left dst func (s.withSequencer q c) = (computeAndStore left dst func s).withSequencer q c := by
  simp only [computeAndStore, State.getReg_withSequencer, State.setReg_withSequencer]
  split <;> rfl

theorem incrementPCBySignedOperand_withSequencer (cond : Cond) (s : State) (q : List MicroOp) (c : Nat) :
    incrementPCBySignedOperand cond (s.withSequencer q c) =
      (incrementPCBySignedOperand cond s).withSequencer q c := by
  simp only [incrementPCBySignedOperand, State.getFlag_withSequencer]
  split <;> rfl

/-- Every micro-op but FetchOpcode neither reads nor writes Q and the cycle count. -/
theorem apply_withSequencer {u : MicroOp} (h : u ≠ .fetchOpcode) (s : State) (q : List MicroOp) (c : Nat) :
    u.apply (s.withSequencer q c) = (u.apply s).withSequencer q c := by
  cases u with
  | fetchOpcode => exact absurd rfl h
  | storeToRegister src dst => exact storeToRegister_withSequencer src dst s q c
  | computeAndStore left dst func => exact computeAndStore_withSequencer left dst func s q c
  | incrementPCBySignedOperand cond => exact incrementPCBySignedOperand_withSequencer cond s q c
  | setFlag flag value => exact s.putFlag_withSequencer q c flag value
  | incrementAddressByReg reg wrap =>
    cases wrap <;>
      simp only [MicroOp.apply, microOpEffect, incrementAddressByReg, State.getReg_withSequencer] <;> rfl
  | writeToAddress src addr =>
    simp only [MicroOp.apply, microOpEffect, writeToAddress, State.getReg_withSequencer,
      State.getAddrReg_withSequencer]
    rfl
  | compareToRegister src reg2 =>
    simp only [MicroOp.apply, microOpEffect, compareToRegister, State.getReg_withSequencer]
    rfl
  | bitTest reg =>
    simp only [MicroOp.apply, microOpEffect, bitTest, State.getReg_withSequencer]
    rfl
  | modifyRegister reg func =>
    simp only [MicroOp.apply, microOpEffect, modifyRegister, State.getReg_withSequencer, State.setReg_withSequencer]
    rfl
  | _ => rfl

/-! ## The tick -/

/-- A tick that takes a micro-op with a meaning off Q leaves what that micro-op leaves, the rest of Q, and one cycle
more. -/
theorem tick_of_queue {s : State} {u : MicroOp} {rest : List MicroOp} (hs : s.stopped = false)
    (hq : s.queue = u :: rest) (hw : u.wf = true) (hu : u ≠ .fetchOpcode) :
    tick s = .next ((u.apply s).withSequencer rest (s.cycles + 1)) := by
  have hexec : tick s = executeMicroOp u (s.withSequencer rest (s.cycles + 1)) := by
    simp only [tick, hs, hq]
    rfl
  rw [hexec, executeMicroOp, if_pos hw, microOpEffect_eq_apply hu, apply_withSequencer hu]

theorem tickRun_succ {s t : State} (h : tick s = .next t) (k : Nat) : tickRun (k + 1) s = tickRun k t := by
  simp only [tickRun, h]

theorem tick_of_stopped {s : State} (h : s.stopped = true) : tick s = .refused .tickAfterStop := by
  rw [tick, if_pos h]

/-- Settles O21: the step asks what the tick asks first, and hands a pending micro-op to it. -/
theorem stepOfPendingOrStoppedIsTick : Obligations.StepOfPendingOrStoppedIsTick := by
  intro s h
  cases hs : s.stopped with
  | true => rw [tick_of_stopped hs, step, if_pos hs]
  | false =>
    cases hq : s.queue with
    | nil => exact absurd h (by simp [hq, hs])
    | cons u rest => simp [step, hs, hq]

/-- Settles O20: on a platform of Memories the stream reads change no device. -/
theorem stepRunsDecodedInstruction : Obligations.StepRunsDecodedInstruction := by
  intro s i rest hs hd
  refine ⟨step_of_decode hs hd, fun hm => ?_⟩
  rw [step_of_decode hs hd, State.afterFetch_memoryOnly hm]

/-! ## The opcode fetch -/

/-- Between instructions a tick on a byte of the table enqueues its expansion (R144). -/
theorem tick_of_tableEntry {s : State} (hs : s.idle) {e : Entry} (h : tableEntry s.opcodeSet (s.peek s.pc) = some e) :
    tick s = .next { s with pc := s.pc + 1, cycles := s.cycles + 1, queue := e.expansion,
                            devices := (busRead s.devices s.pc).2 } := by
  rw [tick_of_idle hs, fetchOpcode_of_some (s := s.dequeue []) h]
  rfl

/-- Between instructions a tick on a byte not in the table raises DecodeError (R145). -/
theorem tick_of_tableEntry_none {s : State} (hs : s.idle) (h : tableEntry s.opcodeSet (s.peek s.pc) = none) :
    tick s = (s.dequeue []).fetchByte.2.raise (.decodeError (s.peek s.pc) s.pc) := by
  rw [tick_of_idle hs, fetchOpcode_of_none (s := s.dequeue []) h]
  rfl

/-- Settles O8: the byte fetched is the one a read at PC gives. -/
theorem fetchOpcodeEnqueuesExpansion : Obligations.FetchOpcodeEnqueuesExpansion :=
  fun _ hs => ⟨fun _ h => tick_of_tableEntry hs h, fun h => ⟨_, tick_of_tableEntry_none hs h⟩⟩

/-- Settles O9: the fetch moves PC alone where no read changes a device, and the record stops the core. -/
theorem decodeErrorOnUnpopulatedOpcode : Obligations.DecodeErrorOnUnpopulatedOpcode := by
  intro s hs hm hte
  have hm' : (s.dequeue []).memoryOnly := hm
  refine ⟨?_, tick_of_stopped (by simp [State.stopped])⟩
  rw [tick_of_tableEntry_none hs hte, State.fetchByte_memoryOnly hm']
  rfl

/-! ## The address micro-ops -/

/-- Settles O12: FetchAddrLo clears the high byte and FetchAddrHi keeps the low one. -/
theorem addressAssemblyOverwrites : Obligations.AddressAssemblyOverwrites := by
  intro s rest hs hq hlo hhi
  have hlow := tick_of_queue hs hq rfl (by decide)
  have hhigh := tick_of_queue (s := (MicroOp.fetchAddrLo.apply s).withSequencer (.fetchAddrHi :: rest) (s.cycles + 1))
    hs rfl rfl (by decide)
  refine ⟨_, (tickRun_succ hlow 1).trans (tickRun_succ hhigh 0), ?_, ?_, rfl⟩
  · change addrOf (busRead (busRead s.devices s.pc).2 (s.pc + 1)).1
      (loByte (addrOf 0x00#8 (busRead s.devices s.pc).1)) = 0x1234
    rw [hlo, hhi]
    decide
  · change s.pc + 1#16 + 1#16 = s.pc + 2
    rw [BitVec.add_assoc]
    rfl

/-- The index added to the low byte, without carry into the high byte (R153). -/
theorem addrOf_hiByte_add (addr : Addr) (index : Byte) :
    addrOf (hiByte addr) (loByte addr + index) =
      BitVec.ofNat 16 (addr.toNat / 256 * 256 + (addr.toNat + index.toNat) % 256) := by
  apply BitVec.eq_of_toNat_eq
  rw [addrOf_toNat, hiByte_toNat, BitVec.toNat_add, loByte_toNat, BitVec.toNat_ofNat]
  omega

/-- Settles O13: the sum is taken in the low byte, or in the whole address. -/
theorem addressIndexingWraps : Obligations.AddressIndexingWraps := by
  intro s r rest hs hr
  have hwf : ∀ wrap, (MicroOp.incrementAddressByReg r wrap).wf = true := by
    obtain rfl | rfl := hr <;> exact fun _ => rfl
  refine ⟨fun hq => ?_, fun hq => ?_⟩
  · rw [tick_of_queue hs hq (hwf _) (by simp), ← addrOf_hiByte_add]
    rfl
  · rw [tick_of_queue hs hq (hwf _) (by simp), ← add_zeroExtend_eq_ofNat]
    rfl

end Sys2Proof.Machine
end

section
/-! SUPPORT. Completion (spec 40_sequencer R161, 10_state R33, R45): which micro-ops move PC and which halts, and that of
the instructions only jumps and branches have one that moves PC and only BRK has the one that halts. -/

namespace Sys2Proof.Machine

open Sys2Proof.Claims

/-- Whether the micro-op moves PC: the fetches, the conditional addition and JumpToAddress (R147, R158; 41_microops_alu
R184). -/
def MicroOp.movesPC : MicroOp → Bool
  | .fetchOpcode | .incrementPCBySignedOperand _ | .jumpToAddress => true
  | u => u.consumesStreamByte

/-- Whether the mode is a branch's, whose operand form moves PC (30_encoding R120). -/
def Mode.isRelative : Mode → Bool
  | .relative _ => true
  | _ => false

theorem computeAndStore_pc_halted (left dst : Reg8) (func : AluFunc) (s : State) :
    (computeAndStore left dst func s).pc = s.pc ∧ (computeAndStore left dst func s).halted = s.halted := by
  simp only [computeAndStore]
  split <;> simp

theorem incrementPCBySignedOperand_halted (cond : Cond) (s : State) :
    (incrementPCBySignedOperand cond s).halted = s.halted := by
  simp only [incrementPCBySignedOperand]
  split <;> rfl

theorem pc_apply {u : MicroOp} (h : u.movesPC = false) (s : State) : (u.apply s).pc = s.pc := by
  cases u with
  | fetchOpcode | fetchImmediateOperand | fetchOperand | fetchZeroPageAddr | fetchAddrLo | fetchAddrHi => cases h
  | incrementPCBySignedOperand | jumpToAddress => cases h
  | incrementAddressByReg reg wrap => cases wrap <;> rfl
  | storeToRegister src dst => cases dst <;> rfl
  | computeAndStore left dst func => exact (computeAndStore_pc_halted left dst func s).1
  | modifyRegister reg func => exact s.setReg_pc reg _
  | setFlag flag value => exact s.putFlag_pc flag value
  | _ => rfl

/-- The BRK micro-op alone halts (41_microops_alu R196). -/
theorem halted_apply {u : MicroOp} (h : u ≠ .brk) (s : State) : (u.apply s).halted = s.halted := by
  cases u with
  | brk => exact absurd rfl h
  | fetchOpcode => obtain h | ⟨q, h⟩ := apply_fetchOpcode s <;> rw [h]; rfl
  | incrementPCBySignedOperand cond => exact incrementPCBySignedOperand_halted cond s
  | incrementAddressByReg reg wrap => cases wrap <;> rfl
  | storeToRegister src dst => cases dst <;> rfl
  | computeAndStore left dst func => exact (computeAndStore_pc_halted left dst func s).2
  | modifyRegister reg func => exact s.setReg_halted reg _
  | setFlag flag value => exact s.putFlag_halted flag value
  | _ => rfl

theorem runOps_halted_iff : ∀ {ops : List MicroOp} (s : State),
    (runOps ops s).halted = true ↔ s.halted = true ∨ .brk ∈ ops := by
  intro ops
  induction ops with
  | nil => intro s; simp [runOps]
  | cons u ops ih =>
    intro s
    rw [runOps_cons, ih, List.mem_cons]
    by_cases hu : u = .brk
    · subst hu
      exact iff_of_true (.inl rfl) (.inr (.inl rfl))
    · simp [halted_apply hu, Ne.symm hu]

theorem dereference_pc_halted (s : State) :
    (dereference s).pc = s.pc ∧ (dereference s).halted = s.halted := by
  simp [dereference, readAddressHi, readAddressLo]

theorem Mode.stage_pc {m : Mode} (h : m.isRelative = false) (imm8 : Byte) (addr : Addr) (s : State) :
    (m.stage imm8 addr s).pc = s.pc := by
  cases m with
  | relative => cases h
  | indirect => exact (dereference_pc_halted (eaAbsolute addr s)).1
  | indexedIndirect => exact (dereference_pc_halted (eaZeroPageX imm8 s)).1
  | indirectIndexed => exact (dereference_pc_halted (eaZeroPage imm8 s)).1
  | _ => rfl

theorem Mode.stage_halted (m : Mode) (imm8 : Byte) (addr : Addr) (s : State) :
    (m.stage imm8 addr s).halted = s.halted := by
  cases m with
  | relative cond => exact incrementPCBySignedOperand_halted cond (Machine.immediate imm8 s)
  | indirect => exact (dereference_pc_halted (eaAbsolute addr s)).2
  | indexedIndirect => exact (dereference_pc_halted (eaZeroPageX imm8 s)).2
  | indirectIndexed => exact (dereference_pc_halted (eaZeroPage imm8 s)).2
  | _ => rfl

/-- The instructions that move PC from its sequential place are those whose mode or suffix does, and BRK alone holds
the micro-op that halts. -/
theorem entry_movesPC_halts (i : Instr) :
    (i.entry.mode.isRelative || i.suffix.any MicroOp.movesPC) = transfersControl i ∧
    i.suffix.contains .brk = decide (i = .brk) := by
  cases i <;> simp only [Instr.suffix, Instr.entry, Instr.opcode, encode, List.headD_cons] <;>
    exact ⟨rfl, rfl⟩

theorem exec_halted_iff {i : Instr} {s t : State} (he : exec i s = .next t) :
    t.halted = true ↔ s.halted = true ∨ i = .brk := by
  obtain rfl := eq_runOps_of_exec he
  have hbrk : .brk ∈ i.suffix ↔ i = .brk := by simpa using (entry_movesPC_halts i).2
  rw [runOps_halted_iff, hbrk, Instr.stage, Mode.stage_halted]
  rfl

/-- Jumps and branches apart, an instruction leaves PC past its bytes (10_state R33). -/
theorem exec_pc {i : Instr} {s t : State} (he : exec i s = .next t) (h : transfersControl i = false) :
    t.pc = s.pc + BitVec.ofNat 16 i.length := by
  obtain rfl := eq_runOps_of_exec he
  obtain ⟨hmode, hsuffix⟩ := Bool.or_eq_false_iff.mp ((entry_movesPC_halts i).1.trans h)
  rw [List.any_eq_false] at hsuffix
  rw [runOps_frame State.pc _ fun u hu => pc_apply (by simpa using hsuffix u hu), Instr.stage, Mode.stage_pc hmode]
  rfl

/-- Settles O23: the operand form and the semantic micro-ops keep what `Keeps` names; PC and halted they write as the
table's entry says. -/
theorem everyInstructionCompletes : Obligations.EveryInstructionCompletes := by
  intro i s
  have he := exec_eq_runOps i s
  have k := exec_keeps he
  exact ⟨_, he, k.cycles, exec_halted_iff he, k.queue, k.fault, k.opcodeSet, k.resetRegs, exec_pc he⟩

end Sys2Proof.Machine
end

section
/-! SUPPORT. Decoding undone (spec 30_encoding R100, R109): bytes that decode are the encoding of what they decode to,
and the opcode's entry in the machine's own table is the instruction's. -/

namespace Sys2Proof

open Machine

/-- The instruction of a row, given its operand: a byte (F2) or an address (F3). -/
def Build.toInstr (b : Build) (imm8 : Byte) (addr : Addr) : Instr :=
  match b with
  | .f1 i => i
  | .f2 f => f imm8
  | .f3 f => f addr

/-- The operand bytes of a row (R100, R102). -/
def Build.operandBytes (b : Build) (imm8 : Byte) (addr : Addr) : List Byte :=
  match b with
  | .f1 _ => []
  | .f2 _ => [imm8]
  | .f3 _ => [loByte addr, hiByte addr]

theorem opcodeMap_encode_below_256 (imm8 : Byte) (addr : Addr) (n : Nat) (h : n < 256) :
    (opcodeMap (BitVec.ofNat 8 n)).map (fun b => encode (b.toInstr imm8 addr)) =
      (opcodeMap (BitVec.ofNat 8 n)).map (fun b => BitVec.ofNat 8 n :: b.operandBytes imm8 addr) := by
  interval_cases n <;> rfl

/-- A row of the opcode map is the row of its instruction's encoding. -/
theorem encode_of_opcodeLookup {set : OpcodeSet} {op : Byte} {b : Build} (h : opcodeLookup set op = some b)
    (imm8 : Byte) (addr : Addr) : encode (b.toInstr imm8 addr) = op :: b.operandBytes imm8 addr := by
  have hmap : opcodeMap op = some b := by
    cases set with
    | completed => exact h
    | shown =>
      simp only [opcodeLookup] at h
      split at h
      · exact h
      · cases h
  simpa [hmap] using opcodeMap_encode_below_256 imm8 addr op.toNat op.isLt

/-- What bytes that decode are: a populated opcode, its operand bytes, and what is left (R100). -/
theorem decodeIn_cases {set : OpcodeSet} {bytes rest : List Byte} {i : Instr}
    (h : decodeIn set bytes = .ok (i, rest)) :
    ∃ op b imm8 addr, opcodeLookup set op = some b ∧ i = b.toInstr imm8 addr ∧
      bytes = op :: b.operandBytes imm8 addr ++ rest := by
  unfold decodeIn at h
  split at h
  · cases h
  · next op operands =>
    split at h
    · cases h
    · next hb => cases h; exact ⟨op, _, 0, 0, hb, rfl, rfl⟩
    · next hb =>
      split at h
      · cases h; exact ⟨op, _, _, 0, hb, rfl, rfl⟩
      · cases h
    · next hb =>
      split at h
      · next lo hi _ => cases h; exact ⟨op, _, 0, addrOf hi lo, hb, rfl, by simp [Build.operandBytes]⟩
      · cases h
      · cases h

theorem eq_encode_append_of_decodeIn {set : OpcodeSet} {bytes rest : List Byte} {i : Instr}
    (h : decodeIn set bytes = .ok (i, rest)) : bytes = encode i ++ rest := by
  obtain ⟨op, b, imm8, addr, hb, rfl, rfl⟩ := decodeIn_cases h
  rw [encode_of_opcodeLookup hb]

/-- What decodes under an OPCODE_SET has its entry in that set's table. -/
theorem tableEntry_of_decodeIn {set : OpcodeSet} {bytes rest : List Byte} {i : Instr}
    (h : decodeIn set bytes = .ok (i, rest)) : tableEntry set i.opcode = some i.entry := by
  obtain ⟨op, b, imm8, addr, hb, rfl, -⟩ := decodeIn_cases h
  have hop : (b.toInstr imm8 addr).opcode = op := by rw [Instr.opcode, encode_of_opcodeLookup hb]; rfl
  obtain ⟨e, he, -⟩ := Option.map_eq_some_iff.mp ((opcodeLookup_length set op).symm.trans (by rw [hb]; rfl))
  have hcompleted : tableEntry .completed op = some e := by
    cases set with
    | completed => exact he
    | shown => exact shownTableHasSourceEntries.2 op e he
  rw [hop, he, ← hcompleted, ← hop, tableEntry_opcode]

end Sys2Proof
end

section
/-! SUPPORT. The refinement (spec 40_sequencer R142, R161): the ticks of an instruction execute the micro-ops of its
entry; the mode's fetch micro-ops leave what the operand form leaves, given the bytes read from the stream. -/

namespace Sys2Proof.Machine

/-! ## The ticks of some micro-ops -/

theorem runOps_append (ops ops' : List MicroOp) (s : State) :
    runOps (ops ++ ops') s = runOps ops' (runOps ops s) :=
  List.foldl_append

theorem Instr.ticks_eq (i : Instr) : Instr.ticks i = 1 + i.entry.expansion.length := by
  obtain ⟨op, e, hop, he, -⟩ := encodingLengthFollowsExpansion i
  have hopcode : i.opcode = op := by simp [Instr.opcode, List.headD_eq_head?_getD, hop]
  have hentry : i.entry = e := Option.some.inj ((tableEntry_opcode i).symm.trans (hopcode ▸ he))
  simp only [Instr.ticks, hop, he, hentry]

/-- Micro-ops with a meaning, none of them a fetch of an opcode and none before the last a halt, take a tick each. -/
theorem tickRun_queue : ∀ {ops : List MicroOp} {s : State} (c : Nat), s.stopped = false → (∀ u ∈ ops, u.wf = true) →
    .fetchOpcode ∉ ops → .brk ∉ ops.dropLast →
    tickRun ops.length (s.withSequencer ops c) = .next ((runOps ops s).withSequencer [] (c + ops.length)) := by
  intro ops
  induction ops with
  | nil => intro s c _ _ _ _; rfl
  | cons u ops ih =>
    intro s c hs hwf hfetch hbrk
    obtain ⟨hu, hops⟩ := List.forall_mem_cons.mp hwf
    obtain ⟨hne, hfetch'⟩ := not_or.mp (mt List.mem_cons.mpr hfetch)
    have htick : tick (s.withSequencer (u :: ops) c) = .next ((u.apply s).withSequencer ops (c + 1)) := by
      rw [tick_of_queue (s := s.withSequencer (u :: ops) c) hs rfl hu (Ne.symm hne),
        apply_withSequencer (Ne.symm hne)]
      rfl
    rw [List.length_cons, tickRun_succ htick]
    cases ops with
    | nil => rfl
    | cons v ops =>
      obtain ⟨hhalt, hbrk'⟩ := not_or.mp (mt List.mem_cons.mpr hbrk)
      have hs' : (u.apply s).stopped = false := by
        simpa [State.stopped, halted_apply (Ne.symm hhalt), (MicroOp.apply_keeps (Ne.symm hne) s).fault] using hs
      rw [ih (c + 1) hs' hops hfetch' hbrk', ← runOps_cons, Nat.add_right_comm, Nat.add_assoc]

set_option maxRecDepth 20000 in
/-- A halt ends its expansion: no micro-op follows BRK's. -/
theorem brk_not_mem_dropLast_expansion (set : OpcodeSet) :
    ∀ r ∈ instructionTable set, MicroOp.brk ∉ r.entry.expansion.dropLast := by
  cases set <;> decide

/-- The ticks after the opcode fetch execute the whole expansion. -/
theorem tickRun_expansion {set : OpcodeSet} {op : Byte} {e : Entry} (h : tableEntry set op = some e) {s : State}
    (hs : s.stopped = false) (c : Nat) :
    tickRun e.expansion.length (s.withSequencer e.expansion c) =
      .next ((runOps e.expansion s).withSequencer [] (c + e.expansion.length)) := by
  obtain ⟨r, hr, rfl⟩ := tableEntry_mem h
  have hwf := ((failedTableCheck_eq_none_iff _).mp (failedTableCheck_instructionTable set)).2 r hr
  exact tickRun_queue c hs hwf (fetchOpcode_not_mem_expansion set r hr) (brk_not_mem_dropLast_expansion set r hr)

/-! ## The operand bytes -/

/-- The number of operand bytes of a mode (30_encoding R101). -/
def Mode.operandLength (m : Mode) : Nat := (m.fetchOps.filter MicroOp.consumesStreamByte).length

/-- PC and the devices after `n` stream reads. -/
def State.pastStream (s : State) (n : Nat) : State :=
  { s with pc := s.pc + BitVec.ofNat 16 n, devices := (readStream n s.pc s.devices).2 }

theorem State.pastStream_zero (s : State) : s.pastStream 0 = s := by
  simp [State.pastStream, readStream]

theorem State.pastStream_succ (s : State) (n : Nat) : s.pastStream (n + 1) = s.fetchByte.2.pastStream n := by
  have hpc : s.pc + BitVec.ofNat 16 (n + 1) = s.pc + 1#16 + BitVec.ofNat 16 n := by
    rw [Nat.add_comm, BitVec.ofNat_add, BitVec.add_assoc]
  simp only [State.pastStream, hpc]
  rfl

/-- Fewer stream reads read the first of the same bytes. -/
theorem readStream_take : ∀ (n k : Nat) (pc : Addr) (devices : List Device),
    (readStream n pc devices).1 = (readStream (n + k) pc devices).1.take n := by
  intro n
  induction n with
  | zero => intro k pc devices; rfl
  | succ n ih => intro k pc devices; rw [Nat.succ_add, readStream, readStream, List.take_succ_cons, ih k]

/-- An index added in page zero (R112, R113, R118; 40_sequencer R153). -/
theorem apply_incrementAddressByReg_eaZeroPage (r : Reg8) (imm8 : Byte) (s : State) :
    (MicroOp.incrementAddressByReg r .zeroPage).apply (eaZeroPage imm8 s) =
      { s with ia := addrOf 0x00#8 (imm8 + s.getReg r) } := by
  cases r <;> simp [MicroOp.apply, microOpEffect, incrementAddressByReg, eaZeroPage, State.getReg]

/-- FetchAddrLo and FetchAddrHi stage the address of the two bytes they read (40_sequencer R151, R152, R160). -/
theorem apply_fetchAddrHi_fetchAddrLo (s : State) :
    MicroOp.fetchAddrHi.apply (MicroOp.fetchAddrLo.apply s) =
      eaAbsolute (addrOf s.fetchByte.2.fetchByte.1 s.fetchByte.1) s.fetchByte.2.fetchByte.2 := by
  simp only [MicroOp.apply, microOpEffect, fetchAddrHi, fetchToAddressLow, loByte_addrOf]
  rfl

/-- The fetch micro-ops of a mode leave what its operand form leaves, given the bytes they read. -/
theorem runOps_fetchOps (m : Mode) (s : State) :
    runOps m.fetchOps s =
      m.stage ((readStream m.operandLength s.pc s.devices).1.headD 0)
        (addrOf ((readStream m.operandLength s.pc s.devices).1.tail.headD 0)
          ((readStream m.operandLength s.pc s.devices).1.headD 0))
        (s.pastStream m.operandLength) := by
  have htwo : s.pastStream 2 = s.fetchByte.2.fetchByte.2 := by
    rw [s.pastStream_succ, State.pastStream_succ, State.pastStream_zero]
  have habs := apply_fetchAddrHi_fetchAddrLo s
  cases m with
  | accumulator | implied => exact s.pastStream_zero.symm
  | immediate => rfl
  | zeroPage => rfl
  | zeroPageX => exact apply_incrementAddressByReg_eaZeroPage .x _ s.fetchByte.2
  | zeroPageY => exact apply_incrementAddressByReg_eaZeroPage .y _ s.fetchByte.2
  | absolute => exact habs.trans (htwo ▸ rfl)
  | absoluteX => exact (congrArg (MicroOp.incrementAddressByReg .x .full).apply habs).trans (htwo ▸ rfl)
  | absoluteY => exact (congrArg (MicroOp.incrementAddressByReg .y .full).apply habs).trans (htwo ▸ rfl)
  | indirect => exact (congrArg dereference habs).trans (htwo ▸ rfl)
  | indexedIndirect => exact congrArg dereference (apply_incrementAddressByReg_eaZeroPage .x _ s.fetchByte.2)
  | indirectIndexed => rfl
  | relative => rfl

/-- An entry is its mode's fetch micro-ops and the semantic ones (R105), and the opcode is the only other byte. -/
theorem entry_expansion_length (i : Instr) :
    i.entry.expansion = i.entry.mode.fetchOps ++ i.suffix ∧ i.length = i.entry.mode.operandLength + 1 := by
  cases i <;> simp only [Instr.suffix, Instr.entry, Instr.opcode, Instr.length, encode, List.headD_cons] <;>
    exact ⟨rfl, rfl⟩

/-! ## The step -/

section

variable {s : State} {i : Instr} {rest : List Byte} (hd : decodeIn s.opcodeSet s.streamBytes = .ok (i, rest))

include hd

/-- An instruction's own stream reads read its encoding. -/
theorem readStream_eq_encode : (readStream i.length s.pc s.devices).1 = encode i := by
  have hbytes : (readStream 3 s.pc s.devices).1 = encode i ++ rest := eq_encode_append_of_decodeIn hd
  have hlength : i.length + rest.length = 3 := by
    rw [Instr.length, ← List.length_append, ← hbytes, readStream_length]
  rw [readStream_take _ rest.length, hlength, hbytes]
  exact List.take_left

/-- The opcode is read at PC and the operand bytes after it. -/
theorem encode_eq_peek_cons : encode i = s.peek s.pc ::
    (readStream i.entry.mode.operandLength s.fetchByte.2.pc s.fetchByte.2.devices).1 := by
  rw [← readStream_eq_encode hd, (entry_expansion_length i).2]
  rfl

theorem peek_eq_opcode : s.peek s.pc = i.opcode := by
  rw [Instr.opcode, encode_eq_peek_cons hd, List.headD_cons]

/-- After the opcode fetch the expansion leaves what the instruction does, its ticks counted at once. -/
theorem runOps_expansion :
    runOps i.entry.expansion { s.fetchByte.2 with cycles := s.cycles + Instr.ticks i } =
      runOps i.suffix (i.stage (s.afterFetch i.length)) := by
  obtain ⟨hexpansion, hlength⟩ := entry_expansion_length i
  have hpast := State.pastStream_succ { s with cycles := s.cycles + Instr.ticks i } i.entry.mode.operandLength
  rw [← hlength] at hpast
  rw [hexpansion, runOps_append, runOps_fetchOps, Instr.stage, Instr.imm8, Instr.address, encode_eq_peek_cons hd]
  exact congrArg (fun t => runOps i.suffix (i.entry.mode.stage _ _ t)) hpast.symm

end

/-- Settles O22: the first tick enqueues the entry's expansion, the others execute it on the bytes the decoder read. -/
theorem stepIsInstructionsTicks : Obligations.StepIsInstructionsTicks := by
  intro s i rest hs hd
  have he := tableEntry_of_decodeIn hd
  obtain ⟨t, hexec, hcycles, -, hqueue, -⟩ := everyInstructionCompletes i (s.afterFetch i.length)
  simp only [State.afterFetch_cycles, State.afterFetch_queue, hs.1] at hcycles hqueue
  have hfetch : tick s = .next (s.fetchByte.2.withSequencer i.entry.expansion (s.cycles + 1)) :=
    tick_of_tableEntry hs ((peek_eq_opcode hd).symm ▸ he)
  have hrun := tickRun_expansion he (s := { s.fetchByte.2 with cycles := s.cycles + Instr.ticks i })
    hs.not_stopped (s.cycles + 1)
  rw [runOps_expansion hd, ← eq_runOps_of_exec hexec] at hrun
  calc tickRun (Instr.ticks i) s
    _ = tickRun i.entry.expansion.length (s.fetchByte.2.withSequencer i.entry.expansion (s.cycles + 1)) := by
      rw [Instr.ticks_eq, Nat.add_comm, tickRun_succ hfetch]
    _ = .next (t.withSequencer [] (s.cycles + 1 + i.entry.expansion.length)) := hrun
    _ = .next t := by rw [Nat.add_assoc, ← Instr.ticks_eq, State.withSequencer_self hqueue hcycles]
    _ = step s := ((step_of_decode hs hd).trans hexec).symm

end Sys2Proof.Machine
end

section
/-! SUPPORT. Loads, stores and register transfers (spec 42_load_store_transfer R230–R239): what the class suffixes write,
and that an operand form leaves the register a store writes. -/

namespace Sys2Proof.Machine

open Sys2Proof.Claims

theorem next_congr {s t : State} (h : s = t) :
    (.next s : Host.Outcome State Fault Refusal) = .next t := congrArg _ h

/-! ## What StoreToRegister and the class suffixes write -/

theorem storeToRegister_a (src : Reg8) (s : State) : storeToRegister src .a s = setA s (s.getReg src) := rfl

theorem storeToRegister_x (src : Reg8) (s : State) : storeToRegister src .x s = setX s (s.getReg src) := rfl

theorem storeToRegister_y (src : Reg8) (s : State) : storeToRegister src .y s = setY s (s.getReg src) := rfl

theorem loadMemory_a (s : State) : loadMemory .a s = setA (readOperand s) (readOperand s).io :=
  storeToRegister_a .internalOperand (readOperand s)

theorem loadMemory_x (s : State) : loadMemory .x s = setX (readOperand s) (readOperand s).io :=
  storeToRegister_x .internalOperand (readOperand s)

theorem loadMemory_y (s : State) : loadMemory .y s = setY (readOperand s) (readOperand s).io :=
  storeToRegister_y .internalOperand (readOperand s)

theorem loadImmediate_a (imm8 : Byte) (s : State) : loadImmediate .a imm8 s = setA (immediate imm8 s) imm8 :=
  storeToRegister_a .internalOperand (immediate imm8 s)

theorem loadImmediate_x (imm8 : Byte) (s : State) : loadImmediate .x imm8 s = setX (immediate imm8 s) imm8 :=
  storeToRegister_x .internalOperand (immediate imm8 s)

theorem loadImmediate_y (imm8 : Byte) (s : State) : loadImmediate .y imm8 s = setY (immediate imm8 s) imm8 :=
  storeToRegister_y .internalOperand (immediate imm8 s)

/-- A store writes the register as it stood before the operand form, which leaves A, X and Y alone. -/
theorem storeMemory_stage {r : Reg8} (hr : r ≠ .internalOperand) (m : Mode) (imm8 : Byte) (addr : Addr) (s : State) :
    let u := m.stage imm8 addr s
    storeMemory r u = { u with devices := busWrite u.devices u.ia (s.getReg r) } := by
  rw [← (Mode.stage_keepsRegsFlags m imm8 addr s).getReg hr]
  rfl

/-! ## The instructions -/

/-- Settles O39: the operand goes through IO to A, from the instruction stream or from the bus. -/
theorem ldaLoadsAccumulator : Obligations.LdaLoadsAccumulator := by
  refine ⟨fun imm8 addr => ⟨rfl, rfl, rfl, rfl, rfl, rfl, rfl, rfl⟩, fun imm8 addr s => ?_⟩
  have load (u : State) := next_congr (loadMemory_a u)
  exact ⟨next_congr (loadImmediate_a imm8 _), load _, load _, load _, load _, load _, load _, load _⟩

/-- Settles O40: the operand goes through IO to X or to Y. -/
theorem ldxAndLdyLoadIndexRegisters : Obligations.LdxAndLdyLoadIndexRegisters := by
  refine ⟨fun imm8 addr => ⟨rfl, rfl, rfl, rfl, rfl⟩, fun imm8 addr => ⟨rfl, rfl, rfl, rfl, rfl⟩,
    fun imm8 addr s => ?_⟩
  have loadX (u : State) := next_congr (loadMemory_x u)
  have loadY (u : State) := next_congr (loadMemory_y u)
  exact ⟨next_congr (loadImmediate_x imm8 _), loadX _, loadX _, loadX _, loadX _,
    next_congr (loadImmediate_y imm8 _), loadY _, loadY _, loadY _, loadY _⟩

/-- Settles O41: each form stages IA and leaves the register, which the one bus write then takes to IA. -/
theorem storesWriteRegisterToMemory : Obligations.StoresWriteRegisterToMemory := by
  refine ⟨fun imm8 addr => ⟨rfl, rfl, rfl, rfl, rfl, rfl, rfl, rfl, rfl, rfl, rfl, rfl, rfl⟩, fun imm8 addr s => ?_⟩
  have store {r : Reg8} (hr : r ≠ .internalOperand) (m : Mode) (len ticks : Nat) :=
    next_congr (storeMemory_stage hr m imm8 addr (s.advance len ticks))
  have a : Reg8.a ≠ .internalOperand := nofun
  have x : Reg8.x ≠ .internalOperand := nofun
  have y : Reg8.y ≠ .internalOperand := nofun
  exact ⟨store a .zeroPage 2 3, store a .zeroPageX 2 4, store a .absolute 3 4, store a .absoluteX 3 5,
    store a .absoluteY 3 5, store a .indexedIndirect 2 6, store a .indirectIndexed 2 6,
    store x .zeroPage 2 3, store x .zeroPageY 2 4, store x .absolute 3 4,
    store y .zeroPage 2 3, store y .zeroPageX 2 4, store y .absolute 3 4⟩

/-- Settles O42: a transfer is one StoreToRegister. -/
theorem transfersCopyRegister : Obligations.TransfersCopyRegister := by
  refine ⟨rfl, rfl, rfl, rfl, fun s => ⟨?_, ?_, ?_, ?_⟩⟩
  · exact next_congr (storeToRegister_x .a _)
  · exact next_congr (storeToRegister_y .a _)
  · exact next_congr (storeToRegister_a .x _)
  · exact next_congr (storeToRegister_a .y _)

end Sys2Proof.Machine
end

section
/-! SUPPORT. Arithmetic, logic, compare and bit test (spec 43_alu_compare R260–R271): the adder in integers, and what
ComputeAndStore and CompareToRegister write. -/

namespace Sys2Proof.Machine

open Sys2Proof.Claims

/-! ## The adder in integers (41_microops_alu R188–R190) -/

theorem and_signBit_ne_zero (v : Byte) : (v &&& 0x80#8 != 0#8) = v.msb := by
  rw [show 0x80#8 = BitVec.twoPow 8 7 from rfl, BitVec.and_twoPow, ← BitVec.msb_eq_getLsbD_last v]
  cases v.msb <;> rfl

theorem nineBitSum_toNat (l m : Byte) (c : Bool) :
    (l.zeroExtend 9 + m.zeroExtend 9 + (BitVec.ofBool c).zeroExtend 9).toNat = l.toNat + m.toNat + c.toNat := by
  have := l.isLt
  have := m.isLt
  have := c.toNat_lt
  simp only [BitVec.toNat_add, BitVec.toNat_setWidth, BitVec.toNat_ofBool]
  omega

theorem adder_result (l m : Byte) (c : Bool) :
    (adder l m c).result = BitVec.ofNat 8 (l.toNat + m.toNat + c.toNat) := by
  apply BitVec.eq_of_toNat_eq
  rw [adder, BitVec.toNat_setWidth, nineBitSum_toNat, BitVec.toNat_ofNat]

theorem adder_carry (l m : Byte) (c : Bool) :
    (adder l m c).carry = decide (256 ≤ l.toNat + m.toNat + c.toNat) := by
  rw [adder, ← nineBitSum_toNat]
  exact (BitVec.msb_eq_getLsbD_last _).symm.trans (BitVec.msb_eq_decide _)

/-- R189 in sign bits: the result's sign differs from that of both terms. -/
theorem adder_overflow_msb (l m : Byte) (c : Bool) :
    (adder l m c).overflow =
      ((l.msb ^^ (adder l m c).result.msb) && (m.msb ^^ (adder l m c).result.msb)) := by
  rw [← BitVec.msb_xor, ← BitVec.msb_xor, ← BitVec.msb_and]
  exact and_signBit_ne_zero _

theorem adder_overflow (l m : Byte) (c : Bool) :
    (adder l m c).overflow =
      decide (l.toInt + m.toInt + (c.toNat : Int) < -128 ∨ 127 < l.toInt + m.toInt + (c.toNat : Int)) := by
  have := l.isLt
  have := m.isLt
  have := c.toNat_lt
  rw [adder_overflow_msb, adder_result, Bool.eq_iff_iff]
  simp only [BitVec.msb_eq_decide, BitVec.toInt_eq_toNat_cond, BitVec.toNat_ofNat, Bool.and_eq_true, bne_iff_ne,
    ne_eq, decide_eq_decide, decide_eq_true_eq]
  omega

/-! ## The adder on the complemented operand (R190), as a difference with borrow 1 − C -/

theorem adder_not_result (l m : Byte) (c : Bool) :
    (adder l (~~~m) c).result = l - m - BitVec.ofNat 8 (1 - c.toNat) := by
  have := l.isLt
  have := m.isLt
  have := c.toNat_lt
  apply BitVec.eq_of_toNat_eq
  simp only [adder_result, BitVec.toNat_sub, BitVec.toNat_not, BitVec.toNat_ofNat]
  omega

theorem adder_not_carry (l m : Byte) (c : Bool) :
    (adder l (~~~m) c).carry = decide (m.toNat + (1 - c.toNat) ≤ l.toNat) := by
  have := m.isLt
  have := c.toNat_lt
  rw [adder_carry, BitVec.toNat_not, decide_eq_decide]
  omega

theorem toInt_complement (m : Byte) : (~~~m).toInt = -m.toInt - 1 := by
  have := m.isLt
  simp only [BitVec.toInt_eq_toNat_cond, BitVec.toNat_not]
  omega

theorem adder_not_overflow (l m : Byte) (c : Bool) :
    (adder l (~~~m) c).overflow =
      decide (l.toInt - m.toInt - ((1 - c.toNat : Nat) : Int) < -128 ∨
        127 < l.toInt - m.toInt - ((1 - c.toNat : Nat) : Int)) := by
  have := c.toNat_lt
  rw [adder_overflow, toInt_complement, decide_eq_decide]
  omega

/-! ## What ComputeAndStore and CompareToRegister write -/

theorem carryNat_eq_toNat (u : State) : carryNat u = u.flagC.toNat := by
  rw [carryNat]
  cases u.flagC <;> rfl

theorem computeAndStore_addWithCarry (u : State) : computeAndStore .a .a .addWithCarry u = added u := by
  rw [added, carryNat_eq_toNat, ← adder_result, ← adder_carry, ← adder_overflow]
  rfl

theorem computeAndStore_subtractWithBorrow (u : State) :
    computeAndStore .a .a .subtractWithBorrow u = subtracted u := by
  rw [subtracted, carryNat_eq_toNat, ← adder_not_result, ← adder_not_carry, ← adder_not_overflow]
  rfl

/-- OR, AND and EOR write A, N and Z only. -/
theorem computeAndStore_of_keepsCarry {f : AluFunc} (h : f.writesCarry = false) (u : State) :
    computeAndStore .a .a f u = setA u (f.apply u.a u.io u.flagC).result := by
  rw [computeAndStore, h]
  rfl

/-- Z of the difference says that the two are equal. -/
theorem setCompareFlags_eq_compared (u : State) (r m : Byte) : u.setCompareFlags r m = compared u r m := by
  have hz : (r - m == 0#8) = decide (r = m) := decide_eq_decide.2 sub_eq_zero
  rw [compared, ← hz]
  rfl

theorem compareToRegister_operand (r : Reg8) (u : State) :
    compareToRegister .internalOperand r u = compared u (u.getReg r) u.io :=
  setCompareFlags_eq_compared u (u.getReg r) u.io

/-! ## The instructions -/

/-- Settles O43: each form applies the adder to A, the staged operand and C. -/
theorem adcAddsWithCarry : Obligations.AdcAddsWithCarry := by
  refine ⟨fun imm8 addr => ⟨rfl, rfl, rfl, rfl, rfl, rfl, rfl, rfl⟩, fun imm8 addr s => ?_⟩
  have add (u : State) := next_congr (computeAndStore_addWithCarry u)
  exact ⟨add _, add _, add _, add _, add _, add _, add _, add _⟩

/-- Settles O44: each form applies the adder to A, the complemented operand and C. -/
theorem sbcSubtractsWithBorrow : Obligations.SbcSubtractsWithBorrow := by
  refine ⟨fun imm8 addr => ⟨rfl, rfl, rfl, rfl, rfl, rfl, rfl, rfl⟩, fun imm8 addr s => ?_⟩
  have subtract (u : State) := next_congr (computeAndStore_subtractWithBorrow u)
  exact ⟨subtract _, subtract _, subtract _, subtract _, subtract _, subtract _, subtract _, subtract _⟩

/-- Settles O45: none of the three functions writes C or V. -/
theorem logicOperationsKeepCarryAndOverflow : Obligations.LogicOperationsKeepCarryAndOverflow := by
  have logic {f : AluFunc} (hf : f.writesCarry = false) (u : State) :=
    next_congr (computeAndStore_of_keepsCarry hf u)
  have andA := logic (f := .and) rfl
  have orA := logic (f := .or) rfl
  have eorA := logic (f := .eor) rfl
  refine ⟨fun imm8 addr => ⟨rfl, rfl, rfl, rfl, rfl, rfl, rfl, rfl⟩, fun imm8 addr s => ?_,
    fun imm8 addr => ⟨rfl, rfl, rfl, rfl, rfl, rfl, rfl, rfl⟩, fun imm8 addr s => ?_,
    fun imm8 addr => ⟨rfl, rfl, rfl, rfl, rfl, rfl, rfl, rfl⟩, fun imm8 addr s => ?_⟩
  · exact ⟨andA _, andA _, andA _, andA _, andA _, andA _, andA _, andA _⟩
  · exact ⟨orA _, orA _, orA _, orA _, orA _, orA _, orA _, orA _⟩
  · exact ⟨eorA _, eorA _, eorA _, eorA _, eorA _, eorA _, eorA _, eorA _⟩

/-- Settles O46: each form compares its register with the staged operand. -/
theorem comparesSetFlagsOnly : Obligations.ComparesSetFlagsOnly := by
  have compare (r : Reg8) (u : State) := next_congr (compareToRegister_operand r u)
  have a := compare .a
  have x := compare .x
  have y := compare .y
  refine ⟨fun imm8 addr => ⟨rfl, rfl, rfl, rfl, rfl, rfl, rfl, rfl⟩, fun imm8 addr s => ?_, fun imm8 addr s => ?_⟩
  · exact ⟨a _, a _, a _, a _, a _, a _, a _, a _⟩
  · exact ⟨rfl, rfl, rfl, rfl, rfl, rfl, x _, x _, x _, y _, y _, y _⟩

/-- Settles O47: BIT is one read and one BitTest of A, whose flags the statement writes out. -/
theorem bitTestsOperandBits : Obligations.BitTestsOperandBits :=
  fun _ _ _ => ⟨rfl, rfl, rfl, rfl⟩

end Sys2Proof.Machine
end

section
/-! SUPPORT. Shifts, rotates, increments and decrements (spec 44_shift_incdec R290–R300): ModifyRegister's functions in
numbers, and what a register form and a memory form write. -/

namespace Sys2Proof.Machine

open Sys2Proof.Claims

/-! ## The shifts and rotates in numbers (41_microops_alu R193) -/

theorem getLsbD_7_eq_decide (v : Byte) : v.getLsbD 7 = decide (128 ≤ v.toNat) :=
  (BitVec.msb_eq_getLsbD_last v).symm.trans (BitVec.msb_eq_decide v)

theorem getLsbD_0_eq_decide (v : Byte) : v.getLsbD 0 = decide (v.toNat % 2 = 1) := Nat.testBit_zero _

theorem shiftLeft_one_eq_ofNat (v : Byte) : v <<< 1 = BitVec.ofNat 8 (2 * v.toNat) := by
  apply BitVec.eq_of_toNat_eq
  rw [BitVec.toNat_shiftLeft, Nat.shiftLeft_eq, Nat.pow_one, Nat.mul_comm, BitVec.toNat_ofNat]

theorem ushiftRight_one_eq_ofNat (v : Byte) : v >>> 1 = BitVec.ofNat 8 (v.toNat / 2) := by
  have := v.isLt
  apply BitVec.eq_of_toNat_eq
  rw [BitVec.toNat_ushiftRight, Nat.shiftRight_one, BitVec.toNat_ofNat]
  omega

/-- The old C enters ROL's result in bit 0, which the shift has left 0. -/
theorem result_rotateLeft (v : Byte) (u : State) :
    ModifyFunc.rotateLeft.result v u.flagC = BitVec.ofNat 8 (2 * v.toNat + carryNat u) := by
  have hdisjoint : v <<< 1 &&& (BitVec.ofBool u.flagC).zeroExtend 8 = 0#8 := by
    ext i hi
    cases i with
    | zero => simp
    | succ i => simp
  rw [ModifyFunc.result, ← BitVec.add_eq_or_of_and_eq_zero _ _ hdisjoint, shiftLeft_one_eq_ofNat, BitVec.ofNat_add,
    carryNat]
  cases u.flagC <;> rfl

/-- The old C enters ROR's result in bit 7, which the shift has left 0. -/
theorem result_rotateRight (v : Byte) (u : State) :
    ModifyFunc.rotateRight.result v u.flagC = BitVec.ofNat 8 (v.toNat / 2 + 128 * carryNat u) := by
  have hdisjoint : v >>> 1 &&& (BitVec.ofBool u.flagC).zeroExtend 8 <<< 7 = 0#8 := by
    ext i hi
    obtain h | rfl : i < 7 ∨ i = 7 := by omega
    · simp [h]
    · simp
  rw [ModifyFunc.result, ← BitVec.add_eq_or_of_and_eq_zero _ _ hdisjoint, ushiftRight_one_eq_ofNat, BitVec.ofNat_add,
    carryNat]
  cases u.flagC <;> rfl

/-! ## What a memory form and a register form write -/

theorem modifyMemory_eq_writtenBack (g : ModifyFunc) (s : State) {v : Byte} {c : Bool}
    (hv : g.result (readOperand s).io (readOperand s).flagC = v)
    (hc : g.carry (readOperand s).io (readOperand s).flagC = c) :
    modifyMemory g s = writtenBack (readOperand s) v c := by
  subst hv hc
  rfl

theorem modifyRegister_a (g : ModifyFunc) (s : State) {v : Byte} {c : Bool} (hv : g.result s.a s.flagC = v)
    (hc : g.carry s.a s.flagC = c) : modifyRegister .a g s = { setA s v with flagC := c } := by
  subst hv hc
  rfl

/-- Increment and decrement write X, N and Z only. -/
theorem modifyRegister_x_of_not_shifts {g : ModifyFunc} (h : g.shifts = false) (s : State) :
    modifyRegister .x g s = setX s (g.result s.x s.flagC) := by
  rw [modifyRegister, ModifyFunc.carry_of_not_shifts h]
  rfl

/-- Increment and decrement write Y, N and Z only. -/
theorem modifyRegister_y_of_not_shifts {g : ModifyFunc} (h : g.shifts = false) (s : State) :
    modifyRegister .y g s = setY s (g.result s.y s.flagC) := by
  rw [modifyRegister, ModifyFunc.carry_of_not_shifts h]
  rfl

/-! ## The instructions -/

/-- Settles O48: each form applies its function to the byte read at IA, or to A, and C. -/
theorem shiftsAndRotates : Obligations.ShiftsAndRotates := by
  have asl (s : State) := next_congr
    (modifyMemory_eq_writtenBack .shiftLeft s (shiftLeft_one_eq_ofNat _) (getLsbD_7_eq_decide _))
  have lsr (s : State) := next_congr
    (modifyMemory_eq_writtenBack .shiftRight s (ushiftRight_one_eq_ofNat _) (getLsbD_0_eq_decide _))
  have rol (s : State) := next_congr
    (modifyMemory_eq_writtenBack .rotateLeft s (result_rotateLeft _ _) (getLsbD_7_eq_decide _))
  have ror (s : State) := next_congr
    (modifyMemory_eq_writtenBack .rotateRight s (result_rotateRight _ _) (getLsbD_0_eq_decide _))
  refine ⟨fun imm8 addr => ⟨rfl, rfl, rfl, rfl⟩, fun imm8 addr s => ⟨asl _, asl _, asl _, asl _⟩,
    fun imm8 addr => ⟨rfl, rfl, rfl, rfl⟩, fun imm8 addr s => ⟨lsr _, lsr _, lsr _, lsr _⟩,
    fun imm8 addr => ⟨rfl, rfl, rfl, rfl⟩, fun imm8 addr s => ⟨rol _, rol _, rol _, rol _⟩,
    fun imm8 addr => ⟨rfl, rfl, rfl, rfl⟩, fun imm8 addr s => ⟨ror _, ror _, ror _, ror _⟩,
    rfl, rfl, rfl, rfl, fun s => ⟨?_, ?_, ?_, ?_⟩⟩
  · exact next_congr (modifyRegister_a .shiftLeft _ (shiftLeft_one_eq_ofNat _) (getLsbD_7_eq_decide _))
  · exact next_congr (modifyRegister_a .shiftRight _ (ushiftRight_one_eq_ofNat _) (getLsbD_0_eq_decide _))
  · exact next_congr (modifyRegister_a .rotateLeft _ (result_rotateLeft _ _) (getLsbD_7_eq_decide _))
  · exact next_congr (modifyRegister_a .rotateRight _ (result_rotateRight _ _) (getLsbD_0_eq_decide _))

/-- Settles O49: each form applies a function that does not write C to the byte read at IA. -/
theorem memoryIncrementAndDecrement : Obligations.MemoryIncrementAndDecrement := by
  have modify {g : ModifyFunc} (hg : g.shifts = false) (s : State) := next_congr
    (modifyMemory_eq_writtenBack g s rfl (ModifyFunc.carry_of_not_shifts hg _ _))
  have inc := modify (g := .increment) rfl
  have dec := modify (g := .decrement) rfl
  exact ⟨fun imm8 addr => ⟨rfl, rfl, rfl, rfl⟩, fun imm8 addr s => ⟨inc _, inc _, inc _, inc _⟩,
    fun imm8 addr => ⟨rfl, rfl, rfl, rfl⟩, fun imm8 addr s => ⟨dec _, dec _, dec _, dec _⟩⟩

/-- Settles O50: each is one ModifyRegister of X or Y by a function that does not write C. -/
theorem registerIncrementAndDecrement : Obligations.RegisterIncrementAndDecrement := by
  have x {g : ModifyFunc} (hg : g.shifts = false) (s : State) := next_congr (modifyRegister_x_of_not_shifts hg s)
  have y {g : ModifyFunc} (hg : g.shifts = false) (s : State) := next_congr (modifyRegister_y_of_not_shifts hg s)
  exact ⟨rfl, rfl, rfl, rfl, fun s => ⟨x (g := .increment) rfl _, y (g := .increment) rfl _,
    x (g := .decrement) rfl _, y (g := .decrement) rfl _⟩⟩

end Sys2Proof.Machine
end

section
/-! SUPPORT. Jumps, branches, halt and flag instructions (spec 45_control_flags R320–R340): the target of a taken branch
in integers, and what a branch writes. -/

namespace Sys2Proof.Machine

/-- A branch's displacement counts, signed, from the instruction after its two bytes (R158). -/
theorem add_signExtend_eq_ofInt (pc : Addr) (rr : Byte) :
    pc + 2#16 + rr.signExtend 16 = BitVec.ofInt 16 ((pc.toNat : Int) + 2 + rr.toInt) := by
  rw [BitVec.ofInt_add, BitVec.ofInt_add, BitVec.ofInt_natCast, BitVec.ofNat_toNat, BitVec.setWidth_eq]
  rfl

/-- The eight branches differ in the flag they test and its value only: PC, IO and the ticks are all they write. -/
theorem branch_advance (flag : Flag) (value : Bool) (rr : Byte) (s : State) :
    branch flag value rr (s.advance 2 3) =
      { s with
        io := rr, cycles := s.cycles + 3,
        pc := if s.getFlag flag = value then BitVec.ofInt 16 ((s.pc.toNat : Int) + 2 + rr.toInt) else s.pc + 2 } := by
  have hflag : (immediate rr (s.advance 2 3)).getFlag flag = s.getFlag flag := by cases flag <;> rfl
  rw [branch, incrementPCBySignedOperand, hflag, ← add_signExtend_eq_ofInt]
  split_ifs
  · rfl
  · rfl

/-! ## The instructions -/

/-- Settles O52: each is the one branch, on its flag and value. -/
theorem branchesTestTheirFlag : Obligations.BranchesTestTheirFlag := by
  have form (flag : Flag) (value : Bool) (rr : Byte) (s : State) := next_congr (branch_advance flag value rr s)
  exact ⟨fun rr s => ⟨rfl, form .n false rr s⟩, fun rr s => ⟨rfl, form .n true rr s⟩,
    fun rr s => ⟨rfl, form .v false rr s⟩, fun rr s => ⟨rfl, form .v true rr s⟩,
    fun rr s => ⟨rfl, form .c false rr s⟩, fun rr s => ⟨rfl, form .c true rr s⟩,
    fun rr s => ⟨rfl, form .z false rr s⟩, fun rr s => ⟨rfl, form .z true rr s⟩⟩

/-- Settles O51: the operand form leaves the target in IA, and JumpToAddress overwrites the PC past the instruction. -/
theorem jumpsSetPC : Obligations.JumpsSetPC :=
  fun _ _ => ⟨rfl, rfl, rfl, rfl⟩

/-- Settles O53: NOP only moves past its byte, BRK also halts, and a halted core refuses the tick. -/
theorem brkHaltsAndNopDoesNothing : Obligations.BrkHaltsAndNopDoesNothing :=
  ⟨rfl, rfl, fun _ => ⟨rfl, tick_of_stopped rfl, rfl⟩⟩

/-- Settles O54: each is one SetFlag past its byte, which writes the field the statement names. -/
theorem flagInstructionsWriteOneFlag : Obligations.FlagInstructionsWriteOneFlag :=
  ⟨rfl, rfl, rfl, rfl, rfl, rfl, rfl, fun _ => ⟨rfl, rfl, rfl, rfl, rfl, rfl, rfl⟩⟩

end Sys2Proof.Machine
end

section
/-! SUPPORT. Refusals and faults (spec 60_exceptions R400–R420): what state a raised fault leaves, that a micro-op
executed counts no cycle and is never refused, and which micro-op raises which fault. -/

namespace Sys2Proof.Machine

/-! ## The state after -/

/-- The state a raised fault leaves holds its record and is otherwise the state where it was raised (R404). -/
theorem stateAfter_raise (s : State) (r : FaultRecord) : stateAfter (s.raise r) = some { s with fault := some r } := by
  cases r <;> rfl

/-- Executing a micro-op is never refused, and the cycles are the tick's to count, not the micro-op's. -/
theorem stateAfter_executeMicroOp (u : MicroOp) (s : State) :
    ∃ t, stateAfter (executeMicroOp u s) = some t ∧ t.cycles = s.cycles := by
  obtain ⟨-, e, -, hx⟩ | ⟨-, -, hx⟩ | ⟨-, -, t, hx, -, k⟩ | ⟨-, hx⟩ := executeMicroOp_cases u s <;> rw [hx]
  · exact ⟨_, rfl, rfl⟩
  · exact ⟨_, stateAfter_raise _ _, rfl⟩
  · exact ⟨t, rfl, k.cycles⟩
  · exact ⟨_, stateAfter_raise _ _, rfl⟩

/-- Settles O6: it is the tick's first check (R408). -/
theorem stoppedCoreRefusesTicks : Obligations.StoppedCoreRefusesTicks :=
  fun s h => tick_of_stopped (by simpa [State.stopped, Option.isSome_iff_ne_none] using h)

/-- Settles O7: an accepted tick counts its cycle as it takes the micro-op off Q, and the micro-op counts none. -/
theorem acceptedTickCountsOneCycle : Obligations.AcceptedTickCountsOneCycle := by
  intro s
  cases hs : s.stopped with
  | true =>
    rw [tick_of_stopped hs]
    simp [stateAfter]
  | false =>
    obtain ⟨u, rest, -, hx⟩ := tick_executes hs
    obtain ⟨t, ht, hcycles⟩ := stateAfter_executeMicroOp u (s.dequeue rest)
    rw [hx, ht]
    refine ⟨fun t' h => ?_, by simp⟩
    obtain rfl := Option.some.inj h
    exact hcycles

/-! ## UnimplementedOperation -/

/-- Settles O11: the micro-op that Q lost to the tick is put back before the fault is raised (log 7). -/
theorem illFormedMicroOpFaults : Obligations.IllFormedMicroOpFaults := by
  intro s u rest hs hq hw
  have htick : tick s = raiseUnimplemented u (s.dequeue rest) := by
    simp [tick, hs, hq, executeMicroOp, hw]
  rw [htick, raiseUnimplemented, hq]
  rfl

/-! ## DecodeError -/

/-- Between instructions, a byte at PC that is not in the table does not decode, so the step is the tick's. -/
theorem step_of_tableEntry_none {s : State} (hs : s.idle) (h : tableEntry s.opcodeSet (s.peek s.pc) = none) :
    step s = tick s := by
  cases hd : decodeIn s.opcodeSet s.streamBytes with
  | ok decoded =>
    obtain ⟨i, rest⟩ := decoded
    rw [peek_eq_opcode hd, tableEntry_of_decodeIn hd] at h
    cases h
  | error failure => rw [step_of_decode_error hs hd, tick_of_idle hs]

/-- Only FetchOpcode raises DecodeError, with the byte it fetched and the address it fetched it from (R401). -/
theorem fetchOpcode_of_executeMicroOp_decodeError {u : MicroOp} {s after : State} {op : Byte} {addr : Addr}
    (h : executeMicroOp u s = .fault (.decodeError op addr after)) :
    u = .fetchOpcode ∧ op = s.peek s.pc ∧ addr = s.pc ∧ tableEntry s.opcodeSet op = none := by
  obtain ⟨-, e, -, hx⟩ | ⟨hu, hte, hx⟩ | ⟨-, -, t, hx, -, -⟩ | ⟨-, hx⟩ := executeMicroOp_cases u s <;>
    rw [hx] at h <;> cases h
  exact ⟨hu, rfl, rfl, hte⟩

/-- A tick that faults was accepted (R405). -/
theorem not_stopped_of_tick_fault {s : State} {f : Fault} (h : tick s = .fault f) : s.stopped = false := by
  cases hs : s.stopped with
  | false => rfl
  | true =>
    rw [tick_of_stopped hs] at h
    cases h

/-- Settles O10: the fetch raises it where it stands, the step leaves such a byte to the tick, and no other micro-op
raises it. -/
theorem decodeErrorOnAnyBus : Obligations.DecodeErrorOnAnyBus := by
  refine ⟨fun s hs hte => ?_, fun s after op addr h => ?_⟩
  · have htick := tick_of_tableEntry_none hs hte
    exact ⟨htick, (step_of_tableEntry_none hs hte).trans htick⟩
  · obtain ⟨u, rest, hq, hx⟩ := tick_executes (not_stopped_of_tick_fault h)
    obtain ⟨rfl, hfetched⟩ := fetchOpcode_of_executeMicroOp_decodeError (hx ▸ h)
    exact ⟨hq.imp And.left fun hq => ⟨rest, hq⟩, hfetched⟩

end Sys2Proof.Machine
end

section
/-! SUPPORT. Construction, reset and boot (spec 70_reset_and_hazards R440–R451): what construction and reset set, the
three boot ticks, and that the host's operations keep the invariant. -/

namespace Sys2Proof.Machine

/-! ## Construction and reset -/

theorem constructFrom_of_failedTableCheck {table : List TableRow} {initial : State} {op : Byte} {check : TableCheck}
    (h : failedTableCheck table = some (op, check)) :
    constructFrom table initial = .refused (.invariantViolation op check) := by
  rw [constructFrom, h]

theorem construct_eq_constructed (set : OpcodeSet) (regs : ResetRegs) (devices : List Device) :
    construct set regs devices = .next (State.constructed set regs devices) := by
  rw [construct, constructFrom, failedTableCheck_instructionTable]

/-- Settles O1: either table passes its check, and the state constructed is the one R440 lists. -/
theorem constructionSetsEveryField : Obligations.ConstructionSetsEveryField :=
  ⟨fun _ _ _ _ h => constructFrom_of_failedTableCheck h, construct_eq_constructed⟩

theorem Memory.read_whole (addr : Addr) : Memory.whole.read addr = 0x00 := rfl

/-- The reset platform's Memory answers every read, with 0 (log 2). -/
theorem State.peek_reset (addr : Addr) : State.reset.peek addr = 0x00 := by
  have hread : State.reset.peek addr = if Memory.whole.covers addr then Memory.whole.read addr else 0x00 :=
    busRead_memory_cons Memory.whole [] addr
  rw [hread, Memory.read_whole, ite_self]

/-- Settles O2: the record is the definition's, and nothing is written in its Memory. -/
theorem resetStateFields : Obligations.ResetStateFields := ⟨rfl, State.peek_reset⟩

/-- Settles O4: `resetCore` writes the fields R442 names and no other. -/
theorem resetKeepsCyclesFaultAndDevices : Obligations.ResetKeepsCyclesFaultAndDevices := fun _ => rfl

/-- Settles O5: the natural-number difference is 0 where the integer one is negative. -/
theorem userCyclesSubtractBoot : Obligations.UserCyclesSubtractBoot := by
  intro s
  rw [State.userCycles, Config.bootLength]
  omega

/-! ## The boot -/

/-- Settles O3: each tick takes the head of the boot sequence, and FetchAddrHi keeps the low byte fetched before it. -/
theorem bootReadsResetVector : Obligations.BootReadsResetVector := by
  intro set regs devices s low afterLow high afterHigh s1 s2 s3
  have hlow : tick s = .next s1 := tick_of_queue (u := .fetchAddrLo) rfl rfl rfl (by decide)
  have hhigh : tick s1 = .next { s2 with ia := addrOf high (loByte (addrOf 0x00 low)) } :=
    tick_of_queue (u := .fetchAddrHi) rfl rfl rfl (by decide)
  rw [loByte_addrOf] at hhigh
  have hjump : tick s2 = .next s3 := tick_of_queue (u := .jumpToAddress) rfl rfl rfl (by decide)
  exact ⟨hlow, rfl, hhigh, rfl, hjump, rfl⟩

/-! ## The host's operations and the invariant -/

/-- An operation on the devices leaves Q and the table alone: well-formed devices are all it has to keep. -/
theorem State.Inv.withDevices {s : State} (h : s.Inv) {devices : List Device} (hd : ∀ d ∈ devices, d.wf = true) :
    { s with devices := devices }.Inv :=
  ⟨hd, h.queueOk⟩

theorem State.resetCore_inv {s : State} (h : s.Inv) : s.resetCore.Inv := ⟨h.devicesWf, .inl List.suffix_rfl⟩

theorem hostWrite_inv {s : State} (h : s.Inv) (addr : Addr) (v : Byte) : (hostWrite addr v s).Inv :=
  (s.memWrite_keeps addr v).inv h

/-- An accepted bulk load replaces a Memory of the list by what its own bulk load gives (R72). -/
theorem bulkLoad_cases {s t : State} {k : Nat} {start : Addr} {bytes : List Byte}
    (h : bulkLoad k start bytes s = .next t) :
    ∃ m m', s.devices[k]? = some (.memory m) ∧ m.bulkLoad start bytes = some m' ∧
      t = { s with devices := s.devices.set k (.memory m') } := by
  unfold bulkLoad at h
  split at h
  · next m hk =>
    split at h
    · next m' hm => exact ⟨m, m', hk, hm, (Host.Outcome.next.inj h).symm⟩
    · cases h
  · cases h
  · cases h

theorem bulkLoad_inv {s t : State} {k : Nat} {start : Addr} {bytes : List Byte} (hs : s.Inv)
    (h : bulkLoad k start bytes s = .next t) : t.Inv := by
  obtain ⟨m, m', hk, hm, rfl⟩ := bulkLoad_cases h
  have hwf : (Device.memory m).wf = true := hs.devicesWf _ (List.mem_of_getElem? hk)
  refine hs.withDevices fun d hd => ?_
  obtain hd | rfl := List.mem_or_eq_of_mem_set hd
  · exact hs.devicesWf d hd
  · exact Memory.bulkLoad_wf hwf hm

/-- An accepted registration comes before the first tick and appends a well-formed device (R60, R62). -/
theorem register_cases {s t : State} {d : Device} (h : register d s = .next t) :
    s.cycles = 0 ∧ d.wf = true ∧ t = { s with devices := s.devices ++ [d] } := by
  unfold register at h
  split at h
  · cases h
  · next hc =>
    split at h
    · next hd => exact ⟨not_not.mp hc, hd, (Host.Outcome.next.inj h).symm⟩
    · cases h

theorem register_inv {s t : State} {d : Device} (hs : s.Inv) (h : register d s = .next t) : t.Inv := by
  obtain ⟨-, hd, rfl⟩ := register_cases h
  exact hs.withDevices (List.forall_mem_append.mpr ⟨hs.devicesWf, List.forall_mem_singleton.mpr hd⟩)

/-- Settles O27: reset puts the boot sequence in Q, and the other operations keep every Memory canonical. -/
theorem hostOperationsKeepInvariant : Obligations.HostOperationsKeepInvariant :=
  ⟨fun _ => State.resetCore_inv, fun _ addr v h => hostWrite_inv h addr v, fun _ _ _ _ _ => bulkLoad_inv,
    fun _ _ _ => register_inv⟩

end Sys2Proof.Machine
end

section
/-! SUPPORT. The round trips of the decoder and the encoder (spec 30_encoding R100, R107–R109): an instruction's opcode
leads the decoder back to it, under the OPCODE_SETs that populate it and no other. -/

namespace Sys2Proof

/-- SHOWN populates the instructions whose opcode byte the source gives (R107). -/
theorem Instr.wf_shown_eq_contains (i : Instr) : i.wf .shown = shownOpcodes.contains i.opcode := by
  cases i <;> simp only [Instr.opcode, encode, List.headD_cons] <;> rfl

/-- The lookup of an instruction's opcode answers exactly where the instruction is populated. -/
theorem opcodeLookup_opcode (set : OpcodeSet) (i : Instr) :
    opcodeLookup set i.opcode = if i.wf set then opcodeMap i.opcode else none := by
  cases set with
  | completed => rfl
  | shown => rw [i.wf_shown_eq_contains, opcodeLookup]

/-- The row of an instruction's opcode builds the instruction again from its operand. -/
theorem opcodeMap_opcode (i : Instr) :
    (opcodeMap i.opcode).map (fun b => b.toInstr i.imm8 i.address) = some i := by
  cases i <;>
    simp only [Instr.opcode, Instr.imm8, Instr.address, encode, List.headD_cons, List.tail_cons,
      addrOf_hiByte_loByte] <;> rfl

/-- A populated opcode with its row's operand bytes decodes to the row's instruction: the converse of
`decodeIn_cases`. -/
theorem decodeIn_of_opcodeLookup {set : OpcodeSet} {op : Byte} {b : Build} (h : opcodeLookup set op = some b)
    (imm8 : Byte) (addr : Addr) (rest : List Byte) :
    decodeIn set (op :: b.operandBytes imm8 addr ++ rest) = .ok (b.toInstr imm8 addr, rest) := by
  cases b <;> simp [decodeIn, h, Build.operandBytes, Build.toInstr]

/-- Settles O14: the opcode of a populated instruction has a row, which reads back the operand bytes encoded. -/
theorem decodeOfEncodeIsInstruction : Obligations.DecodeOfEncodeIsInstruction := by
  intro set i rest hwf
  obtain ⟨b, hmap, hb⟩ := Option.map_eq_some_iff.mp (opcodeMap_opcode i)
  have hlookup : opcodeLookup set i.opcode = some b := by rw [opcodeLookup_opcode, if_pos hwf, hmap]
  have hencode : encode i = i.opcode :: b.operandBytes i.imm8 i.address := by
    simpa only [hb] using encode_of_opcodeLookup hlookup i.imm8 i.address
  rw [hencode, decodeIn_of_opcodeLookup hlookup, hb]

/-- Only what its OPCODE_SET populates decodes (R109). -/
theorem wf_of_decodeIn {set : OpcodeSet} {bytes rest : List Byte} {i : Instr}
    (h : decodeIn set bytes = .ok (i, rest)) : i.wf set = true := by
  obtain ⟨op, b, imm8, addr, hb, rfl, -⟩ := decodeIn_cases h
  have hop : (b.toInstr imm8 addr).opcode = op := by rw [Instr.opcode, encode_of_opcodeLookup hb, List.headD_cons]
  by_contra hwf
  rw [← hop, opcodeLookup_opcode, if_neg hwf] at hb
  cases hb

/-- Settles O15: the bytes are the encoding, and their opcode is looked up only where it is populated. -/
theorem encodeOfDecodeIsBytes : Obligations.EncodeOfDecodeIsBytes :=
  fun _ _ _ _ h => ⟨wf_of_decodeIn h, eq_encode_append_of_decodeIn h⟩

end Sys2Proof
end
